-- ==== Sys2Proof/Word.lean ====
section
/-! DEFINITION. The two value widths that the whole model shares (spec/00_scope.md R6). -/

namespace Sys2Proof

/-- A 32-bit value: a command word, a result word, a clock sample, a setpoint, the entropy word (R6). -/
abbrev Word := BitVec 32

/-- An 8-bit value: a slot index field, a pitch, a velocity, a drawn byte (R6). -/
abbrev Byte := BitVec 8

end Sys2Proof
end

