-- ==== Sys2Proof/Syntax.lean ====
section
/-! DEFINITION. The commands of the VSB: one constructor of `Instr` per row of the opcode map
(spec/30_encoding.md R68), each operand at exactly the width its format gives it (R59 to R67). -/

namespace Sys2Proof

/-- The operating mode (spec/10_state.md R24): MIDI-USB, MIDI-JACK, fixed-frequency, pink-noise-frequency. -/
inductive Mode
  | midiUsb
  | midiJack
  | fixed
  | pink
deriving DecidableEq, Repr

/-- One command. `idx` is the slot index field IDX, `fsel` the field select FSEL, `rsel` the register
select RSEL; operand values outside the legal ranges of R67 are commands that record a fault. -/
inductive Instr
  /-- `NOP` (R113). -/
  | nop
  /-- `PINIT` (R76). -/
  | pinit
  /-- `PNEXT` (R81). -/
  | pnext
  /-- `VFIND` (R86). -/
  | vfind
  /-- `VASGN idx, ch, pitch, vel` (R88). -/
  | vasgn (idx : Byte) (ch : BitVec 4) (pitch vel : Byte)
  /-- `VREL idx` (R91). -/
  | vrel (idx : Byte)
  /-- `VRD idx, fld` (R94). -/
  | vrd (idx : Byte) (fsel : BitVec 3)
  /-- `SMODE m` (R98). -/
  | smode (m : Mode)
  /-- `SBEND b` (R99). -/
  | sbend (b : Bool)
  /-- `SPER us` (R100). -/
  | sper (us : BitVec 28)
  /-- `SWID us` (R101). -/
  | swid (us : BitVec 28)
  /-- `TICK` (R103). -/
  | tick
  /-- `RDREG r` (R114). -/
  | rdreg (rsel : BitVec 4)
deriving DecidableEq, Repr

end Sys2Proof
end

