-- ==== Sys2Proof/Config.lean ====
section
/-! DEFINITION. The implementation parameters of spec/00_scope.md R5: their type, the constants without
a body that stand for the values the spec leaves OPEN, and the instance that the machine after reset has. -/

namespace Sys2Proof

/-- `PRNG_VARIANT` (R5, R79, R80): which of the two generator variants the instance has. -/
inductive PrngVariant
  | counter
  | plain
deriving DecidableEq, Repr, Inhabited

/-- `PRNG_SEL` (R5, R79, conflict C2): which counter value selects the drawn byte. -/
inductive PrngSel
  | post
  | pre
deriving DecidableEq, Repr

/-- `JITTER_FN` (R5, R107) as plain data: the default instance with its `JITTER_STEP`, or an arbitrary
total function that the spec leaves open (`Config.jitterFn`). -/
inductive JitterFn
  | default (step : Nat)
  | external
deriving DecidableEq, Repr

/-- The parameters of R5 as plain data. `Params.Valid` (WellFormed.lean) is their ranges. -/
structure Params where
  /-- `N`, the number of voice slots, 1 to 256. -/
  slots : Nat
  /-- `PERIOD_TABLE`, 128 periods in microseconds, each at least 1. -/
  periodTable : List Word
  /-- `PRNG_VARIANT`. -/
  prngVariant : PrngVariant
  /-- `PRNG_SEL`. -/
  prngSel : PrngSel
  /-- `WARMUP`, 0 to 255. -/
  warmup : Fin 256
  /-- `PRNG_MAGIC`. -/
  prngMagic : Word
  /-- `JITTER_FN`, and `JITTER_STEP` where it is the default instance. -/
  jitter : JitterFn
  /-- `P_MIN`, in microseconds. -/
  pMin : Nat
  /-- `P_MAX`, in microseconds. -/
  pMax : Nat
  /-- `PINK_FORCES_JITTER`. -/
  pinkForcesJitter : Bool
  /-- `VSB_BASE`, the host address of the port window (R45). -/
  vsbBase : Nat
deriving DecidableEq, Repr

namespace Config

/-- `N - 1` of the reset instance: R5 leaves `N` OPEN in 1 to 256. Free value (log 1). -/
opaque slotsLessOne : Fin 256

/-- The entries of `PERIOD_TABLE` of the reset instance, before 0 is excluded: R5 leaves them OPEN (log 1). -/
opaque periodEntry : Fin 128 → Word

/-- `PRNG_VARIANT` of the reset instance: R5 leaves it OPEN (log 1). -/
opaque prngVariant : PrngVariant

/-- `PRNG_MAGIC` of the reset instance: R5 and R75 leave it OPEN (log 1). -/
opaque prngMagic : Word

/-- An arbitrary total `JITTER_FN` (R107: "an external configuration concern"). Free value (log 8). -/
opaque jitterFn : Word → Byte → Int

/-- `VSB_BASE` of the reset instance: R5 leaves it OPEN (log 1). -/
opaque vsbBase : Nat

/-- What the n-th read of the `CMD` port returns: R49 says "an unspecified 32-bit value". Free value (log 6). -/
opaque cmdRead : Nat → Word

/-- A table entry is strictly positive (R5, R39), so the free entry 0 stands for 1. -/
def positivePeriod (w : Word) : Word := if w = 0 then 1 else w

/-- `WARMUP` by variant: 101 with `COUNTER`, 100 with `PLAIN` (R5, R76). -/
def warmupOf : PrngVariant → Fin 256
  | .counter => 101
  | .plain => 100

/-- The instance that the machine after reset has: the value R5 gives where it gives one, a constant
without a body where R5 says OPEN (log 1). -/
def resetParams : Params where
  slots := slotsLessOne.val + 1
  periodTable := (List.finRange 128).map fun p => positivePeriod (periodEntry p)
  prngVariant := prngVariant
  prngSel := .post
  warmup := warmupOf prngVariant
  prngMagic := prngMagic
  jitter := .external
  pMin := 1
  pMax := 2 ^ 31 - 1
  pinkForcesJitter := false
  vsbBase := vsbBase

end Config

end Sys2Proof
end

