-- ==== Sys2Proof/WellFormed.lean ====
section
/-! DEFINITION. The checks on terms: the parameter ranges of spec/00_scope.md R5 and the legal operand
values of spec/30_encoding.md R67. Every term of `Instr` has an encoding (its operands have their fields'
widths), so no check on a command is about encodability; an illegal operand value records a fault when
the command runs. -/

namespace Sys2Proof

/-- The ranges of R5. The upper bound on `P_MAX` is the value R106 gives, which keeps `sdiff` meaningful
(log 9). -/
abbrev Params.Valid (P : Params) : Prop :=
  1 ≤ P.slots ∧ P.slots ≤ 256 ∧
  P.periodTable.length = 128 ∧ 0 ∉ P.periodTable ∧
  1 ≤ P.pMin ∧ P.pMin ≤ P.pMax ∧ P.pMax ≤ 2 ^ 31 - 1

/-- The legal slot indices of R67: `0..N-1`. -/
abbrev legalIndex (P : Params) (idx : Byte) : Prop := idx.toNat < P.slots

/-- The legal pitches of R67: `0..127`. -/
abbrev legalPitch (pitch : Byte) : Prop := pitch.toNat ≤ 127

/-- The legal velocities of R67: `1..127`. -/
abbrev legalVelocity (vel : Byte) : Prop := 1 ≤ vel.toNat ∧ vel.toNat ≤ 127

/-- The legal field selects of R67: `0..5`. -/
abbrev legalField (fsel : BitVec 3) : Prop := fsel.toNat ≤ 5

/-- The legal register selects of R67: `0..13`. -/
abbrev legalRegister (rsel : BitVec 4) : Prop := rsel.toNat ≤ 13

/-- Every operand of the command has a legal value (R67). -/
def Instr.wellFormed (P : Params) : Instr → Bool
  | .nop => true
  | .pinit => true
  | .pnext => true
  | .vfind => true
  | .vasgn idx _ pitch vel => legalIndex P idx ∧ legalPitch pitch ∧ legalVelocity vel
  | .vrel idx => legalIndex P idx
  | .vrd idx fsel => legalIndex P idx ∧ legalField fsel
  | .smode _ => true
  | .sbend _ => true
  | .sper _ => true
  | .swid _ => true
  | .tick => true
  | .rdreg rsel => legalRegister rsel

end Sys2Proof
end

