-- ==== Sys2Proof/Decode.lean ====
section
/-! DEFINITION. The decoder of spec/30_encoding.md R69 over the opcode map of R68, total on every 32-bit
word, and after it the encoder written from the formats R59 to R66 and the assembler words of R72. -/

namespace Sys2Proof

/-- Why a word is no command (R69, R70). -/
inductive DecodeError
  /-- `OP` is 0xD, 0xE or 0xF. -/
  | illegalOp
  /-- A reserved bit of the row's format is set. -/
  | rsvdBits
deriving DecidableEq, Repr

/-- The rows of the opcode map (R68). -/
inductive Opcode
  | nop | pinit | pnext | vfind | vasgn | vrel | vrd | smode | sbend | sper | swid | tick | rdreg
deriving DecidableEq, Repr

/-- `OP = cmd[31:28]` (R58). -/
def opField (cmd : Word) : BitVec 4 := cmd.extractLsb' 28 4

/-- The row that an `OP` value names; none for the reserved values 0xD to 0xF (R68). -/
def Opcode.ofNibble (op : BitVec 4) : Option Opcode :=
  match op.toNat with
  | 0 => some .nop
  | 1 => some .pinit
  | 2 => some .pnext
  | 3 => some .vfind
  | 4 => some .vasgn
  | 5 => some .vrel
  | 6 => some .vrd
  | 7 => some .smode
  | 8 => some .sbend
  | 9 => some .sper
  | 10 => some .swid
  | 11 => some .tick
  | 12 => some .rdreg
  | _ => none

/-- The column `match` of R68. -/
def Opcode.matchBits : Opcode → Word
  | .nop => 0x00000000
  | .pinit => 0x10000000
  | .pnext => 0x20000000
  | .vfind => 0x30000000
  | .vasgn => 0x40000000
  | .vrel => 0x50000000
  | .vrd => 0x60000000
  | .smode => 0x70000000
  | .sbend => 0x80000000
  | .sper => 0x90000000
  | .swid => 0xA0000000
  | .tick => 0xB0000000
  | .rdreg => 0xC0000000

/-- The column `mask` of R68: `OP` and every reserved bit. -/
def Opcode.mask : Opcode → Word
  | .nop => 0xFFFFFFFF
  | .pinit => 0xFFFFFFFF
  | .pnext => 0xFFFFFFFF
  | .vfind => 0xFFFFFFFF
  | .vasgn => 0xF0000000
  | .vrel => 0xFFFFFF00
  | .vrd => 0xFFFFF800
  | .smode => 0xFFFFFFFC
  | .sbend => 0xFFFFFFFE
  | .sper => 0xF0000000
  | .swid => 0xF0000000
  | .tick => 0xFFFFFFFF
  | .rdreg => 0xFFFFFFF0

/-- The mode that a 2-bit MODE field names (R24, R67). -/
def Mode.ofCode (m : BitVec 2) : Mode :=
  match m.toNat with
  | 0 => .midiUsb
  | 1 => .midiJack
  | 2 => .fixed
  | _ => .pink

/-- The 2-bit code of a mode (R24). -/
def Mode.code : Mode → BitVec 2
  | .midiUsb => 0
  | .midiJack => 1
  | .fixed => 2
  | .pink => 3

/-- The command of a row with the operands of R67 taken from the word. -/
def Opcode.operands (op : Opcode) (cmd : Word) : Instr :=
  match op with
  | .nop => .nop
  | .pinit => .pinit
  | .pnext => .pnext
  | .vfind => .vfind
  | .vasgn => .vasgn (cmd.extractLsb' 0 8) (cmd.extractLsb' 24 4) (cmd.extractLsb' 16 8) (cmd.extractLsb' 8 8)
  | .vrel => .vrel (cmd.extractLsb' 0 8)
  | .vrd => .vrd (cmd.extractLsb' 0 8) (cmd.extractLsb' 8 3)
  | .smode => .smode (Mode.ofCode (cmd.extractLsb' 0 2))
  | .sbend => .sbend (cmd.getLsbD 0)
  | .sper => .sper (cmd.extractLsb' 0 28)
  | .swid => .swid (cmd.extractLsb' 0 28)
  | .tick => .tick
  | .rdreg => .rdreg (cmd.extractLsb' 0 4)

/-- The decode procedure of R69. -/
def decode (cmd : Word) : Except DecodeError Instr :=
  match Opcode.ofNibble (opField cmd) with
  | none => .error .illegalOp
  | some op => if cmd &&& op.mask = op.matchBits then .ok (op.operands cmd) else .error .rsvdBits

/-- The row of a command. -/
def Instr.opcode : Instr → Opcode
  | .nop => .nop
  | .pinit => .pinit
  | .pnext => .pnext
  | .vfind => .vfind
  | .vasgn _ _ _ _ => .vasgn
  | .vrel _ => .vrel
  | .vrd _ _ => .vrd
  | .smode _ => .smode
  | .sbend _ => .sbend
  | .sper _ => .sper
  | .swid _ => .swid
  | .tick => .tick
  | .rdreg _ => .rdreg

/-- The 4-bit `OP` value of a row (R68). -/
def Opcode.nibble : Opcode → BitVec 4
  | .nop => 0x0
  | .pinit => 0x1
  | .pnext => 0x2
  | .vfind => 0x3
  | .vasgn => 0x4
  | .vrel => 0x5
  | .vrd => 0x6
  | .smode => 0x7
  | .sbend => 0x8
  | .sper => 0x9
  | .swid => 0xA
  | .tick => 0xB
  | .rdreg => 0xC

/-- The word of a command: `OP` in the high bits, then the fields of its format with zeros in the
reserved bits (R59 to R66). -/
def encode : Instr → Word
  | .nop => Opcode.nop.nibble ++ 0#28
  | .pinit => Opcode.pinit.nibble ++ 0#28
  | .pnext => Opcode.pnext.nibble ++ 0#28
  | .vfind => Opcode.vfind.nibble ++ 0#28
  | .vasgn idx ch pitch vel => Opcode.vasgn.nibble ++ ch ++ pitch ++ vel ++ idx
  | .vrel idx => Opcode.vrel.nibble ++ 0#20 ++ idx
  | .vrd idx fsel => Opcode.vrd.nibble ++ 0#17 ++ fsel ++ idx
  | .smode m => Opcode.smode.nibble ++ 0#26 ++ m.code
  | .sbend b => Opcode.sbend.nibble ++ 0#27 ++ BitVec.ofBool b
  | .sper us => Opcode.sper.nibble ++ us
  | .swid us => Opcode.swid.nibble ++ us
  | .tick => Opcode.tick.nibble ++ 0#28
  | .rdreg rsel => Opcode.rdreg.nibble ++ 0#24 ++ rsel

/-- The host's question: the command that the decoder reads from a table word of `nbits` bits. Every
command is one whole 32-bit word (R57) and words cross the port whole (R46), so no byte order enters; the
bits above `nbits` are 0, and more than 32 bits are no command (log 14). -/
def decodeTableWord (nbits w : Nat) : Option Instr :=
  if nbits ≤ 32 then
    match decode (BitVec.ofNat 32 (w % 2 ^ nbits)) with
    | .ok i => some i
    | .error _ => none
  else none

end Sys2Proof
end

