-- ==== Sys2Proof/Machine/Bits.lean ====
section
/-! DEFINITION. The arithmetic primitives of spec/00_scope.md R8 and the byte lanes of spec/20_memory.md
R46 that are not already operators of `BitVec`. -/

namespace Sys2Proof.Machine

open Sys2Proof

/-- `zext_32(v)` (R8). -/
def zext32 {w : Nat} (v : BitVec w) : Word := v.setWidth 32

/-- A single bit, zero-extended. -/
def zextBit (b : Bool) : Word := zext32 (BitVec.ofBool b)

/-- `sdiff(a, b)`: the difference modulo 2^32 read as a signed value in [-2^31, 2^31-1] (R8). -/
def sdiff (a b : Word) : Int := (a - b).toInt

/-- `clamp(v, lo, hi)` over mathematical integers (R8). -/
def clamp (v lo hi : Int) : Int := if v < lo then lo else if hi < v then hi else v

/-- `ByteOf(x, k) = x[8k+7:8k]`, byte 0 least significant (R46, R78). -/
def byteOf (x : Word) (k : BitVec 2) : Byte := x.extractLsb' (8 * k.toNat) 8

end Sys2Proof.Machine
end

