-- ==== Sys2Proof/Machine/Slot.lean ====
section
/-! DEFINITION. One voice slot (spec/10_state.md R16 to R22), its canonical empty value
(spec/41_voice.md R92) and the pitch-to-period lookup (spec/10_state.md R39). -/

namespace Sys2Proof.Machine

open Sys2Proof

/-- The six fields of a voice slot (R16). -/
structure Slot where
  /-- Source MIDI channel (R17). -/
  channel : BitVec 4
  /-- MIDI pitch 0..127, or the sentinel 255 of an empty slot (R18). -/
  pitch : Byte
  /-- 0 means "no sound" (R19). -/
  velocity : Byte
  /-- Oscillation period in microseconds (R20). -/
  periodUs : Word
  /-- Phase offset captured at assignment (R21). -/
  phaseUs : Word
  /-- Coarse time of activation in milliseconds (R22). -/
  startMs : Word
deriving DecidableEq, Repr

/-- The sentinel pitch of an empty slot (R18). -/
def emptyPitch : Byte := 255

/-- `PERIOD_TABLE[pitch]` (R9, R39). A valid table has an entry for every pitch up to 127; past its end,
where no rule looks, it reads as 1 (log 13). -/
def periodOf (P : Params) (pitch : Nat) : Word := P.periodTable.getD pitch 1

/-- `EMPTY`, the canonical empty slot (R92). -/
def emptySlot (P : Params) : Slot where
  channel := 0
  pitch := emptyPitch
  velocity := 0
  periodUs := periodOf P 0
  phaseUs := 0
  startMs := 0

/-- The slot counts as empty for the allocator (R86: only `pitch` is tested). -/
def Slot.isEmpty (v : Slot) : Bool := v.pitch = emptyPitch

/-- The slot sounds in the timing path (R19, R104: only `velocity` is tested). -/
def Slot.sounds (v : Slot) : Bool := v.velocity ≠ 0

end Sys2Proof.Machine
end

