-- ==== Sys2Proof/Machine/State.lean ====
section
/-! DEFINITION. The machine's state as plain data: everything spec/10_state.md R15 names, the levels of the
two clock inputs (R34), the instance's constant parameters (spec/00_scope.md R5), and the host's side of the
ports (spec/60_exceptions.md R128); the reasons a step can stop; the machine right after reset (R40, R135). -/

namespace Sys2Proof.Machine

open Sys2Proof

/-- The causes of a RECORDED fault (spec/60_exceptions.md R118). A recorded fault is a next state, not a
stop of the machine. -/
inductive Cause
  | illegalOp
  | rsvdBits
  | indexRange
  | selRange
  | pitchRange
  | velRange
  | unseeded
deriving DecidableEq, Repr

/-- Why the model gives a step no next state: host accesses that the spec gives no step. No command ends
in one of these. -/
inductive Fault
  /-- Raised by the step on a host access that is not one aligned 32-bit access to a port: "a model gives it
  no step (the host agent is stuck)" (spec/20_memory.md R47). Safe. -/
  | unalignedPortAccess
  /-- Raised by the step on a host write to the read-only `RESULT` port, to which no rule gives an effect
  (spec/20_memory.md R45; log 7). Safe. -/
  | resultPortWrite
deriving DecidableEq, Repr

/-- Why the model has no meaning for an instruction. -/
inductive Refusal
  /-- Raised by `exec` on an instruction that has no meaning yet, by its mnemonic; no instruction of this
  model is in that case. Safe. -/
  | notModelled (mnemonic : String)
deriving DecidableEq, Repr

/-- The width of a host access to the port window (R45, R47). -/
inductive AccessSize
  | byte
  | half
  | word
deriving DecidableEq, Repr

/-- What a host access does. A write carries its data and the levels of `US_CLK` and `MS_CLK` that the
command it executes samples (R34; log 3). -/
inductive AccessKind
  | write (data us ms : Word)
  | read
deriving DecidableEq, Repr

/-- One host access to the 8 bytes at `VSB_BASE`, at its offset in that window (R45). -/
structure HostAccess where
  offset : Fin 8
  size : AccessSize
  kind : AccessKind
deriving DecidableEq, Repr

/-- One agent's finite sequence of accesses (R37, R128): how many it has made (the index, which advances by
exactly 1 per access) and those still to come, in order. -/
structure HostSeq where
  issued : Nat
  pending : List HostAccess
deriving DecidableEq, Repr

/-- The actors whose turn a step can be (R128, R135; log 18). -/
inductive Actor
  /-- The control path. -/
  | control
  /-- The timing path. -/
  | timing
  /-- The reset input `RST`. -/
  | reset
deriving DecidableEq, Repr

/-- The state of the machine. -/
structure State where
  /-- The instance's parameters (R5); no step changes them (log 1). -/
  cfg : Params
  /-- The voice table `V[0..N-1]` (R16). -/
  voices : List Slot
  /-- `MODE` (R24). -/
  mode : Mode
  /-- `BEND` (R25). -/
  bend : Bool
  /-- `PERIOD_SP`, bits [31:28] always 0 (R26). -/
  periodSp : Word
  /-- `WIDTH_SP`, bits [31:28] always 0 (R26). -/
  widthSp : Word
  /-- `ACC_NEXT` (R27). -/
  accNext : Word
  /-- `ACC_LAST` (R27). -/
  accLast : Word
  /-- `ACC_ARMED` (R27). -/
  accArmed : Bool
  /-- `PRNG_X` (R28). -/
  prngX : Word
  /-- `PRNG_CNT` (R29). -/
  prngCnt : BitVec 2
  /-- `SEEDED` (R30). -/
  seeded : Bool
  /-- `GATE` (R31). -/
  gate : Bool
  /-- `RESULT` (R32). -/
  result : Word
  /-- `FAULT` (R33). -/
  fault : Word
  /-- `FAULT_CMD` (R33). -/
  faultCmd : Word
  /-- The level of the input `US_CLK` that the current command samples (R34). -/
  usClk : Word
  /-- The level of the input `MS_CLK` that the current command samples (R34). -/
  msClk : Word
  /-- The control path's accesses (R128). -/
  control : HostSeq
  /-- The timing path's accesses (R128). -/
  timing : HostSeq
  /-- Which actor moves next, and after it (R51, R128; log 4). -/
  schedule : List Actor
  /-- What the last host read of a port returned (R36, R49). -/
  readData : Word
  /-- How many reads of `CMD` have been made: which free draw the next one returns (R49; log 6). -/
  cmdReads : Nat
deriving DecidableEq, Repr

/-- No access made and none to come. -/
def HostSeq.empty : HostSeq := { issued := 0, pending := [] }

/-- The machine right after reset with the given parameters (R40, R135): every slot `EMPTY`, every register
at the value R40 states, `PRNG_X` (to which R40 gives no value) at 0 (log 2), and nothing on the host's side
(log 4). -/
def State.resetWith (P : Params) : State where
  cfg := P
  voices := List.replicate P.slots (emptySlot P)
  mode := .midiUsb
  bend := false
  periodSp := 0
  widthSp := 0
  accNext := 0
  accLast := 0
  accArmed := false
  prngX := 0
  prngCnt := 0
  seeded := false
  gate := false
  result := 0
  fault := 0
  faultCmd := 0
  usClk := 0
  msClk := 0
  control := .empty
  timing := .empty
  schedule := []
  readData := 0
  cmdReads := 0

/-- The machine right after reset. -/
def State.reset : State := State.resetWith Config.resetParams

end Sys2Proof.Machine
end

