-- ==== Sys2Proof/Machine/Flags.lean ====
section
/-! DEFINITION. The status words: the fault record (spec/10_state.md R33, spec/60_exceptions.md R118), the
`TICK` result bits (spec/42_policy.md R109) and the read-only `CONFIG` word (spec/10_state.md R35). -/

namespace Sys2Proof.Machine

open Sys2Proof

/-- The code of a cause (R118). -/
def Cause.code : Cause → BitVec 4
  | .illegalOp => 1
  | .rsvdBits => 2
  | .indexRange => 3
  | .selRange => 4
  | .pitchRange => 5
  | .velRange => 6
  | .unseeded => 7

/-- `CAUSE = FAULT[3:0]` (R33). -/
def causeField (fault : Word) : BitVec 4 := fault.extractLsb' 0 4

/-- `MULTI = FAULT[8]` (R33). -/
def multiField (fault : Word) : Bool := fault.getLsbD 8

/-- `FAULT[3:0] <- c` (R121). -/
def withCause (fault : Word) (c : Cause) : Word := fault.extractLsb' 4 28 ++ c.code

/-- `FAULT[8] <- 1` (R121). -/
def withMulti (fault : Word) : Word := fault ||| 0x100

/-- The `TICK` result word: bit 1 = a frequency-mode pulse started, bit 0 = the gate (R109). -/
def tickResult (started gate : Bool) : Word := zext32 (BitVec.ofBool started ++ BitVec.ofBool gate)

/-- The code of `PRNG_VARIANT` in `CONFIG[12]` (R35). -/
def variantBit : PrngVariant → Bool
  | .counter => false
  | .plain => true

/-- The code of `PRNG_SEL` in `CONFIG[13]` (R35). -/
def selBit : PrngSel → Bool
  | .post => false
  | .pre => true

/-- The `CONFIG` word: [8:0] `N`, [12] `PRNG_VARIANT`, [13] `PRNG_SEL`, [14] `PINK_FORCES_JITTER`,
[23:16] `WARMUP`, all other bits 0 (R35). -/
def configWord (P : Params) : Word :=
  0#8 ++ BitVec.ofNat 8 P.warmup.val ++ 0#1 ++ BitVec.ofBool P.pinkForcesJitter ++
    BitVec.ofBool (selBit P.prngSel) ++ BitVec.ofBool (variantBit P.prngVariant) ++ 0#3 ++
    BitVec.ofNat 9 P.slots

end Sys2Proof.Machine
end

