-- ==== Sys2Proof/Machine/Ops.lean ====
section
/-! DEFINITION. The named operations over the state: the updates of registers and slots, recording a fault
(the VSB's exception entry, spec/60_exceptions.md R121) and its only return, reset (R123, R135), and the
entropy source that several commands share (spec/40_prng.md R74 to R80). -/

namespace Sys2Proof.Machine

open Sys2Proof

/-! ### Updates -/

/-- `RESULT <- w`. -/
def State.setResult (s : State) (w : Word) : State := { s with result := w }

/-- `V[i] <- v`, the whole slot at once (R43, R48). -/
def State.setSlot (s : State) (i : Nat) (v : Slot) : State := { s with voices := s.voices.set i v }

/-- `MODE <- m`. -/
def State.setMode (s : State) (m : Mode) : State := { s with mode := m }

/-- `BEND <- b`. -/
def State.setBend (s : State) (b : Bool) : State := { s with bend := b }

/-- `PERIOD_SP <- w`. -/
def State.setPeriodSp (s : State) (w : Word) : State := { s with periodSp := w }

/-- `WIDTH_SP <- w`. -/
def State.setWidthSp (s : State) (w : Word) : State := { s with widthSp := w }

/-- `ACC_ARMED <- b`. -/
def State.setArmed (s : State) (b : Bool) : State := { s with accArmed := b }

/-- A pulse is scheduled: `ACC_LAST <- last`, `ACC_NEXT <- next`, `ACC_ARMED <- 1` (R105). -/
def State.schedulePulse (s : State) (last next : Word) : State :=
  { s with accLast := last, accNext := next, accArmed := true }

/-- `PRNG_X <- x`, `PRNG_CNT <- c`. -/
def State.setPrng (s : State) (x : Word) (c : BitVec 2) : State := { s with prngX := x, prngCnt := c }

/-- `SEEDED <- 1`. -/
def State.markSeeded (s : State) : State := { s with seeded := true }

/-- `GATE <- g`. -/
def State.setGate (s : State) (g : Bool) : State := { s with gate := g }

/-- `FAULT <- f`, `FAULT_CMD <- w`. -/
def State.setFault (s : State) (f w : Word) : State := { s with fault := f, faultCmd := w }

/-! ### Slots -/

/-- `V[i]`. Past the end of the table, where no rule reads, it is `EMPTY` (log 12). -/
def State.slot (s : State) (i : Nat) : Slot := s.voices.getD i (emptySlot s.cfg)

/-! ### Recording a fault, and reset -/

/-- `raise Fault(c)` for the command word `cmd` (R121): the first cause and word are kept, a later fault
sets `MULTI`; nothing else changes. -/
def State.raise (s : State) (c : Cause) (cmd : Word) : State :=
  if causeField s.fault = 0 then s.setFault (withCause s.fault c) cmd
  else s.setFault (withMulti s.fault) s.faultCmd

/-- The end of a command whose word is `cmd` (R10, R121; the meanings give `encode` of the command, log 11): all of its writes, or, where it raised a fault,
none of them but the fault record. -/
def State.complete (s : State) (cmd : Word) (effect : Except Cause State) : State :=
  match effect with
  | .ok t => t
  | .error c => s.raise c cmd

/-- Asserting `RST` (R135): every piece of the VSB's state at its reset value. The instance's parameters and
the host's side of the ports are not the VSB's state and stay (log 10). -/
def State.applyReset (s : State) : State :=
  { State.resetWith s.cfg with
    usClk := s.usClk, msClk := s.msClk, control := s.control, timing := s.timing,
    schedule := s.schedule, readData := s.readData, cmdReads := s.cmdReads }

/-! ### The entropy source -/

/-- `Permute(x)`, the xorshift step with shifts 13, 17, 5 in this order (R74). -/
def permute (x : Word) : Word :=
  let x := x ^^^ (x <<< 13)
  let x := x ^^^ (x >>> 17)
  x ^^^ (x <<< 5)

/-- `repeat n times: x <- Permute(x)` (R76). -/
def permuteTimes : Nat → Word → Word
  | 0, x => x
  | n + 1, x => permuteTimes n (permute x)

/-- `Seed(MS) = (PRNG_MAGIC - MS) mod 2^32` (R75). -/
def seedOf (P : Params) (ms : Word) : Word := P.prngMagic - ms

/-- One draw of the `COUNTER` variant from a seeded generator (R79). -/
def State.drawCounter (s : State) : Byte × State :=
  let x := if s.prngCnt = 0 then permute s.prngX else s.prngX
  let cNew := s.prngCnt + 1
  let k := match s.cfg.prngSel with
    | .post => cNew
    | .pre => s.prngCnt
  (byteOf x k, s.setPrng x cNew)

/-- One draw of the `PLAIN` variant from a seeded generator (R80); `PRNG_CNT` is not used (log 17). -/
def State.drawPlain (s : State) : Byte × State :=
  let x := permute s.prngX
  (byteOf x 0, s.setPrng x s.prngCnt)

/-- `Draw()` (R79, R80, R82): the byte and the state after it, or the fault `UNSEEDED`. -/
def State.draw (s : State) : Except Cause (Byte × State) :=
  if s.seeded then
    match s.cfg.prngVariant with
    | .counter => .ok s.drawCounter
    | .plain => .ok s.drawPlain
  else .error .unseeded

end Sys2Proof.Machine
end

