-- ==== Sys2Proof/Machine/Operands.lean ====
section
/-! DEFINITION. The operand forms with their checks (spec/30_encoding.md R67): slot indices, the field
selects of `VRD`, the register selects of `RDREG` (spec/20_memory.md R42, R44), pitches and velocities. A
check answers what the operand names, or the fault that its rule raises. -/

namespace Sys2Proof.Machine

open Sys2Proof

/-- IDX: a slot index below `N`, or `INDEX_RANGE` (R67). -/
def State.index (s : State) (idx : Byte) : Except Cause Nat :=
  if idx.toNat < s.cfg.slots then .ok idx.toNat else .error .indexRange

/-- The fields that FSEL names (R67). -/
inductive SlotField
  | channel
  | pitch
  | velocity
  | periodUs
  | phaseUs
  | startMs
deriving DecidableEq, Repr

/-- FSEL: 0..5 name a field; 6 and 7 raise `SEL_RANGE` (R67, R94). -/
def fieldOf (fsel : BitVec 3) : Except Cause SlotField :=
  match fsel.toNat with
  | 0 => .ok .channel
  | 1 => .ok .pitch
  | 2 => .ok .velocity
  | 3 => .ok .periodUs
  | 4 => .ok .phaseUs
  | 5 => .ok .startMs
  | _ => .error .selRange

/-- One whole field of a slot, zero-extended to 32 bits (R43). -/
def Slot.field (v : Slot) : SlotField → Word
  | .channel => zext32 v.channel
  | .pitch => zext32 v.pitch
  | .velocity => zext32 v.velocity
  | .periodUs => v.periodUs
  | .phaseUs => v.phaseUs
  | .startMs => v.startMs

/-- The registers that RSEL names (R44). -/
inductive RegName
  | mode
  | bend
  | periodSp
  | widthSp
  | prngX
  | prngCnt
  | seeded
  | accNext
  | accLast
  | accArmed
  | gate
  | fault
  | faultCmd
  | config
deriving DecidableEq, Repr

/-- RSEL: 0x0..0xD name a register; 0xE and 0xF raise `SEL_RANGE` (R44). -/
def registerOf (rsel : BitVec 4) : Except Cause RegName :=
  match rsel.toNat with
  | 0x0 => .ok .mode
  | 0x1 => .ok .bend
  | 0x2 => .ok .periodSp
  | 0x3 => .ok .widthSp
  | 0x4 => .ok .prngX
  | 0x5 => .ok .prngCnt
  | 0x6 => .ok .seeded
  | 0x7 => .ok .accNext
  | 0x8 => .ok .accLast
  | 0x9 => .ok .accArmed
  | 0xA => .ok .gate
  | 0xB => .ok .fault
  | 0xC => .ok .faultCmd
  | 0xD => .ok .config
  | _ => .error .selRange

/-- The value of a register, zero-extended to 32 bits (R44); `PRNG_X` has no value before the first `PINIT`
and raises `UNSEEDED` (R115). Reading has no side effect (R114). -/
def State.register (s : State) : RegName → Except Cause Word
  | .mode => .ok (zext32 s.mode.code)
  | .bend => .ok (zextBit s.bend)
  | .periodSp => .ok s.periodSp
  | .widthSp => .ok s.widthSp
  | .prngX => if s.seeded then .ok s.prngX else .error .unseeded
  | .prngCnt => .ok (zext32 s.prngCnt)
  | .seeded => .ok (zextBit s.seeded)
  | .accNext => .ok s.accNext
  | .accLast => .ok s.accLast
  | .accArmed => .ok (zextBit s.accArmed)
  | .gate => .ok (zextBit s.gate)
  | .fault => .ok s.fault
  | .faultCmd => .ok s.faultCmd
  | .config => .ok (configWord s.cfg)

/-- PITCH: 0..127, or `PITCH_RANGE` (R67, R90). -/
def pitchOperand (pitch : Byte) : Except Cause Nat :=
  if pitch.toNat ≤ 127 then .ok pitch.toNat else .error .pitchRange

/-- VEL: 1..127, or `VEL_RANGE` (R67, R90). -/
def velocityOperand (vel : Byte) : Except Cause Byte :=
  if vel = 0 then .error .velRange
  else if vel.toNat ≤ 127 then .ok vel else .error .velRange

/-- IMM28, zero-extended (R67). -/
def immediate (us : BitVec 28) : Word := zext32 us

end Sys2Proof.Machine
end

