-- ==== Sys2Proof/Machine/Policy.lean ====
section
/-! DEFINITION. The mode and period policy: `SMODE`, `SBEND`, `SPER`, `SWID`, and the timing path's `TICK`
with its gate rules, accumulator and jitter (spec/42_policy.md). -/

namespace Sys2Proof.Machine

open Sys2Proof

/-- The effect of `SMODE` (R98): the mode is latched, the accumulator disarmed, the gate cleared. -/
def smodeEffect (m : Mode) (s : State) : Except Cause State :=
  .ok (((s.setMode m).setArmed false).setGate false)

/-- `SMODE` (R98). -/
def execSmode (m : Mode) (s : State) : Host.Outcome State Fault Refusal :=
  .next (s.complete (encode (.smode m)) (smodeEffect m s))

/-- The effect of `SBEND` (R99). -/
def sbendEffect (b : Bool) (s : State) : Except Cause State := .ok (s.setBend b)

/-- `SBEND` (R99). -/
def execSbend (b : Bool) (s : State) : Host.Outcome State Fault Refusal :=
  .next (s.complete (encode (.sbend b)) (sbendEffect b s))

/-- The effect of `SPER` (R100). -/
def sperEffect (us : BitVec 28) (s : State) : Except Cause State := .ok (s.setPeriodSp (immediate us))

/-- `SPER` (R100). -/
def execSper (us : BitVec 28) (s : State) : Host.Outcome State Fault Refusal :=
  .next (s.complete (encode (.sper us)) (sperEffect us s))

/-- The effect of `SWID` (R101). -/
def swidEffect (us : BitVec 28) (s : State) : Except Cause State := .ok (s.setWidthSp (immediate us))

/-- `SWID` (R101). -/
def execSwid (us : BitVec 28) (s : State) : Host.Outcome State Fault Refusal :=
  .next (s.complete (encode (.swid us)) (swidEffect us s))

/-! ### MIDI modes -/

/-- Whether a mode is a frequency mode; the other two are MIDI modes (R97). -/
def isFrequency : Mode → Bool
  | .midiUsb => false
  | .midiJack => false
  | .fixed => true
  | .pink => true

/-- How far `t` is into the current period of a voice, counted from its captured phase; exact, over
mathematical integers (R104). -/
def Slot.offsetAt (v : Slot) (t : Word) : Int :=
  ((t.toNat : Int) % (v.periodUs.toNat : Int) + (v.periodUs.toNat : Int) - (v.phaseUs.toNat : Int)) %
    (v.periodUs.toNat : Int)

/-- The square wave of a sounding voice is on for the first `width` microseconds of each period (R104). -/
def Slot.fires (v : Slot) (t width : Word) : Bool :=
  v.sounds && decide (v.offsetAt t < (width.toNat : Int))

/-- `MidiGate(t)`: the OR over all sounding voices (R104). -/
def State.midiGate (s : State) (t : Word) : Bool :=
  (List.range s.cfg.slots).any fun i => (s.slot i).fires t s.widthSp

/-! ### Frequency modes -/

/-- `JitterOn()` (R102). -/
def State.jitterOn (s : State) : Bool :=
  isFrequency s.mode && (s.bend || (decide (s.mode = .pink) && s.cfg.pinkForcesJitter))

/-- `JITTER_DEFAULT(sp, b)` (R107). -/
def jitterDefault (step : Nat) (sp : Word) (b : Byte) : Int :=
  (sp.toNat : Int) + ((b.toNat : Int) - 128) * (step : Int)

/-- `JITTER_FN` of the instance (R107). -/
def jitterValue (P : Params) (sp : Word) (b : Byte) : Int :=
  match P.jitter with
  | .default step => jitterDefault step sp b
  | .external => Config.jitterFn sp b

/-- The defensive clamp to `P_MIN..P_MAX` (R106). -/
def clampPeriod (P : Params) (v : Int) : Int := clamp v P.pMin P.pMax

/-- `EffPeriod()`: the period of the next interval and the state after its draw, or `UNSEEDED` (R106). -/
def State.effPeriod (s : State) : Except Cause (Int × State) :=
  if s.jitterOn then
    match s.draw with
    | .error c => .error c
    | .ok (b, t) => .ok (clampPeriod s.cfg (jitterValue s.cfg s.periodSp b), t)
  else .ok (clampPeriod s.cfg s.periodSp.toNat, s)

/-- A pulse is due at `t`: the accumulator is unarmed or `ACC_NEXT` has come (R105). -/
def State.pulseDue (s : State) (t : Word) : Bool :=
  !s.accArmed || decide (0 ≤ sdiff t s.accNext)

/-- The start of a pulse due at `t`: at `t` itself where the accumulator is unarmed or a whole period or
more late, else at `ACC_NEXT` (R105). -/
def State.pulseBase (s : State) (t : Word) (period : Int) : Word :=
  if s.accArmed = false ∨ period ≤ sdiff t s.accNext then t else s.accNext

/-- A pulse start at `t` (R105): the effective period is computed and the next pulse scheduled. -/
def State.startPulse (s : State) (t : Word) : Except Cause State :=
  match s.effPeriod with
  | .error c => .error c
  | .ok (period, u) =>
    let base := s.pulseBase t period
    .ok (u.schedulePulse base (base + BitVec.ofInt 32 period))

/-- The frequency-mode gate: on while `(t - ACC_LAST) mod 2^32 < WIDTH_SP`, unsigned (R108). -/
def State.freqGate (s : State) (t : Word) : Bool := decide ((t - s.accLast).toNat < s.widthSp.toNat)

/-- `GATE` and `RESULT` at the end of a `TICK` (R103, R105, R109). -/
def State.showTick (s : State) (started gate : Bool) : State :=
  (s.setGate gate).setResult (tickResult started gate)

/-- `FreqStep(t)` (R105). -/
def State.freqStep (s : State) (t : Word) : Except Cause State :=
  if s.pulseDue t then
    match s.startPulse t with
    | .error c => .error c
    | .ok u => .ok (u.showTick true (u.freqGate t))
  else .ok (s.showTick false (s.freqGate t))

/-- The effect of `TICK` with the microsecond clock sampled once (R103). -/
def tickEffect (s : State) : Except Cause State :=
  if isFrequency s.mode then s.freqStep s.usClk
  else .ok (s.showTick false (s.midiGate s.usClk))

/-- `TICK` (R103). -/
def execTick (s : State) : Host.Outcome State Fault Refusal :=
  .next (s.complete (encode .tick) (tickEffect s))

end Sys2Proof.Machine
end

