-- ==== Sys2Proof/Machine/Prng.lean ====
section
/-! DEFINITION. The entropy commands `PINIT` and `PNEXT` (spec/40_prng.md R76, R81). -/

namespace Sys2Proof.Machine

open Sys2Proof

/-- The effect of `PINIT` (R76): seed from the millisecond clock, warm up, counter 0, seeded. -/
def pinitEffect (s : State) : Except Cause State :=
  .ok ((s.setPrng (permuteTimes s.cfg.warmup.val (seedOf s.cfg s.msClk)) 0).markSeeded)

/-- `PINIT` (R76). -/
def execPinit (s : State) : Host.Outcome State Fault Refusal :=
  .next (s.complete (encode .pinit) (pinitEffect s))

/-- The effect of `PNEXT` (R81): one draw, its byte zero-extended in `RESULT`. -/
def pnextEffect (s : State) : Except Cause State :=
  match s.draw with
  | .error c => .error c
  | .ok (b, t) => .ok (t.setResult (zext32 b))

/-- `PNEXT` (R81, R82). -/
def execPnext (s : State) : Host.Outcome State Fault Refusal :=
  .next (s.complete (encode .pnext) (pnextEffect s))

end Sys2Proof.Machine
end

