-- ==== Sys2Proof/Machine/System.lean ====
section
/-! DEFINITION. The system commands `NOP` and `RDREG` (spec/43_system.md). -/

namespace Sys2Proof.Machine

open Sys2Proof

/-- The effect of `NOP` (R113): none. -/
def nopEffect (s : State) : Except Cause State := .ok s

/-- `NOP` (R113). -/
def execNop (s : State) : Host.Outcome State Fault Refusal :=
  .next (s.complete (encode .nop) (nopEffect s))

/-- The effect of `RDREG` (R114): the select is checked before the entropy word's validity (R115). -/
def rdregEffect (rsel : BitVec 4) (s : State) : Except Cause State :=
  match registerOf rsel with
  | .error c => .error c
  | .ok r =>
    match s.register r with
    | .error c => .error c
    | .ok w => .ok (s.setResult w)

/-- `RDREG` (R114). -/
def execRdreg (rsel : BitVec 4) (s : State) : Host.Outcome State Fault Refusal :=
  .next (s.complete (encode (.rdreg rsel)) (rdregEffect rsel s))

end Sys2Proof.Machine
end

