-- ==== Sys2Proof/Machine/Voice.lean ====
section
/-! DEFINITION. The voice table commands `VFIND`, `VASGN`, `VREL` and `VRD` (spec/41_voice.md). -/

namespace Sys2Proof.Machine

open Sys2Proof

/-- The linear scan of `VFIND` over slots `0..N-1` in index order (R86). -/
def State.firstEmpty (s : State) : Option Nat :=
  (List.range s.cfg.slots).find? fun i => (s.slot i).isEmpty

/-- The result word of `VFIND`: the index, or `NONE = 0xFFFFFFFF` (R86). -/
def findResult : Option Nat → Word
  | some i => BitVec.ofNat 32 i
  | none => 0xFFFFFFFF

/-- The effect of `VFIND` (R86): no slot is written and none is reserved. -/
def vfindEffect (s : State) : Except Cause State := .ok (s.setResult (findResult s.firstEmpty))

/-- `VFIND` (R86). -/
def execVfind (s : State) : Host.Outcome State Fault Refusal :=
  .next (s.complete (encode .vfind) (vfindEffect s))

/-- The slot that `VASGN` writes: the period from the table, the phase from the microsecond clock modulo
that period, the start from the millisecond clock (R88). -/
def assignedSlot (s : State) (ch : BitVec 4) (pitch : Nat) (vel : Byte) : Slot where
  channel := ch
  pitch := BitVec.ofNat 8 pitch
  velocity := vel
  periodUs := periodOf s.cfg pitch
  phaseUs := s.usClk % periodOf s.cfg pitch
  startMs := s.msClk

/-- The effect of `VASGN` (R88), its operand checks in the priority of R90 and R120. An occupied slot is
overwritten (R89). -/
def vasgnEffect (idx : Byte) (ch : BitVec 4) (pitch vel : Byte) (s : State) : Except Cause State :=
  match s.index idx with
  | .error c => .error c
  | .ok i =>
    match pitchOperand pitch with
    | .error c => .error c
    | .ok p =>
      match velocityOperand vel with
      | .error c => .error c
      | .ok v => .ok (s.setSlot i (assignedSlot s ch p v))

/-- `VASGN` (R88). -/
def execVasgn (idx : Byte) (ch : BitVec 4) (pitch vel : Byte) (s : State) : Host.Outcome State Fault Refusal :=
  .next (s.complete (encode (.vasgn idx ch pitch vel)) (vasgnEffect idx ch pitch vel s))

/-- The effect of `VREL` (R91): the slot becomes `EMPTY` (R92). -/
def vrelEffect (idx : Byte) (s : State) : Except Cause State :=
  match s.index idx with
  | .error c => .error c
  | .ok i => .ok (s.setSlot i (emptySlot s.cfg))

/-- `VREL` (R91). -/
def execVrel (idx : Byte) (s : State) : Host.Outcome State Fault Refusal :=
  .next (s.complete (encode (.vrel idx)) (vrelEffect idx s))

/-- The effect of `VRD` (R94): the index is checked before the field select. -/
def vrdEffect (idx : Byte) (fsel : BitVec 3) (s : State) : Except Cause State :=
  match s.index idx with
  | .error c => .error c
  | .ok i =>
    match fieldOf fsel with
    | .error c => .error c
    | .ok f => .ok (s.setResult ((s.slot i).field f))

/-- `VRD` (R94). -/
def execVrd (idx : Byte) (fsel : BitVec 3) (s : State) : Host.Outcome State Fault Refusal :=
  .next (s.complete (encode (.vrd idx fsel)) (vrdEffect idx fsel s))

end Sys2Proof.Machine
end

