-- ==== Sys2Proof/Machine/Dispatch.lean ====
section
/-! DEFINITION. One arm per command of the opcode map (spec/30_encoding.md R68). -/

namespace Sys2Proof.Machine

open Sys2Proof

/-- What a command does. -/
def exec (i : Instr) (s : State) : Host.Outcome State Fault Refusal :=
  match i with
  | .nop => Sys2Proof.Machine.execNop s
  | .pinit => Sys2Proof.Machine.execPinit s
  | .pnext => Sys2Proof.Machine.execPnext s
  | .vfind => Sys2Proof.Machine.execVfind s
  | .vasgn idx ch pitch vel => Sys2Proof.Machine.execVasgn idx ch pitch vel s
  | .vrel idx => Sys2Proof.Machine.execVrel idx s
  | .vrd idx fsel => Sys2Proof.Machine.execVrd idx fsel s
  | .smode m => Sys2Proof.Machine.execSmode m s
  | .sbend b => Sys2Proof.Machine.execSbend b s
  | .sper us => Sys2Proof.Machine.execSper us s
  | .swid us => Sys2Proof.Machine.execSwid us s
  | .tick => Sys2Proof.Machine.execTick s
  | .rdreg rsel => Sys2Proof.Machine.execRdreg rsel s

end Sys2Proof.Machine
end

