-- ==== Sys2Proof/Machine/HostPort.lean ====
section
/-! DEFINITION. The host's side of the ports: which actor moves, what a host access asks of the VSB, and
the fetch of the next command from the `CMD` port (spec/20_memory.md R45 to R51, spec/10_state.md R36). -/

namespace Sys2Proof.Machine

open Sys2Proof

/-- The cause that a decode error records (R69, R118). -/
def causeOf : DecodeError → Cause
  | .illegalOp => .illegalOp
  | .rsvdBits => .rsvdBits

/-- The access an agent that moves now would make next. -/
def HostSeq.access (q : HostSeq) : Option HostAccess := q.pending.head?

/-- The agent has made its next access: the index advances by exactly 1 (R37). -/
def HostSeq.advance (q : HostSeq) : HostSeq :=
  match q.pending with
  | [] => q
  | _ :: rest => { issued := q.issued + 1, pending := rest }

/-- What happens next at the VSB's ports. -/
inductive PortEvent
  /-- Nothing: nobody is scheduled, or the agent whose turn it is has no access left (log 5). -/
  | idle
  /-- `RST` is asserted (R135). -/
  | reset
  /-- A host access. -/
  | access (a : HostAccess)
deriving DecidableEq, Repr

/-- The event of an agent's turn. -/
def agentEvent (q : HostSeq) : PortEvent :=
  match q.access with
  | none => .idle
  | some a => .access a

/-- The next event, by the schedule (R51, R128). -/
def State.portEvent (s : State) : PortEvent :=
  match s.schedule with
  | [] => .idle
  | .control :: _ => agentEvent s.control
  | .timing :: _ => agentEvent s.timing
  | .reset :: _ => .reset

/-- The host's side after that event: the turn is taken and the agent that moved has advanced. -/
def State.takeTurn (s : State) : State :=
  match s.schedule with
  | [] => s
  | .control :: rest => { s with schedule := rest, control := s.control.advance }
  | .timing :: rest => { s with schedule := rest, timing := s.timing.advance }
  | .reset :: rest => { s with schedule := rest }

/-- The clock inputs stand at these levels while the command executes (R34). -/
def State.sampleClocks (s : State) (us ms : Word) : State := { s with usClk := us, msClk := ms }

/-- A read of a port returned `w` to the host; the VSB's own state does not change (R49). -/
def State.returnRead (s : State) (w : Word) : State := { s with readData := w }

/-- One more free draw has been used (R49). -/
def State.countCmdRead (s : State) : State := { s with cmdReads := s.cmdReads + 1 }

/-- What an access asks of the VSB (R45, R47, R49). -/
inductive PortRequest
  /-- An aligned word written to `CMD`, with the clock levels. -/
  | command (w us ms : Word)
  /-- An aligned word read of `CMD`. -/
  | readCmd
  /-- An aligned word read of `RESULT`. -/
  | readResult
  /-- An access the spec gives no step. -/
  | noStep (f : Fault)
deriving DecidableEq, Repr

/-- `CMD` is the aligned word at offset 0, `RESULT` the aligned word at offset 4 (R45); a byte or halfword
access, or one at another offset, has no step (R47), nor has a write to the read-only `RESULT` (log 7). -/
def HostAccess.request (a : HostAccess) : PortRequest :=
  match a.size with
  | .byte => .noStep .unalignedPortAccess
  | .half => .noStep .unalignedPortAccess
  | .word =>
    match a.offset.val with
    | 0 =>
      match a.kind with
      | .write w us ms => .command w us ms
      | .read => .readCmd
    | 4 =>
      match a.kind with
      | .write _ _ _ => .noStep .resultPortWrite
      | .read => .readResult
    | _ => .noStep .unalignedPortAccess

/-- The access that a host makes at an absolute address, where it lies in the 8 bytes at `VSB_BASE`; what
lies elsewhere is not part of the VSB (R45). -/
def accessAt (P : Params) (addr : Nat) (size : AccessSize) (kind : AccessKind) : Option HostAccess :=
  if h : P.vsbBase ≤ addr ∧ addr - P.vsbBase < 8 then
    some { offset := ⟨addr - P.vsbBase, h.2⟩, size := size, kind := kind }
  else none

/-- The output `GATE_OUT` (R31, R36). -/
def State.gateOut (s : State) : Bool := s.gate

/-- What the machine does in one step, up to the meaning of a command. -/
inductive Fetched
  /-- A command decoded from the word written to `CMD`, with the state it executes in. -/
  | run (i : Instr) (t : State)
  /-- A step without a command's meaning: its next state. -/
  | go (t : State)
  /-- No step. -/
  | stop (f : Fault)

/-- A word written to `CMD` is decoded before any state is read or written; a word that is no command records
its fault (R69, R121). -/
def State.fetchCommand (t : State) (w : Word) : Fetched :=
  match decode w with
  | .ok i => .run i t
  | .error e => .go (t.raise (causeOf e) w)

/-- The next access, reset or wait. -/
def State.fetch (s : State) : Fetched :=
  match s.portEvent with
  | .idle => .go s.takeTurn
  | .reset => .go s.takeTurn.applyReset
  | .access a =>
    match a.request with
    | .command w us ms => (s.takeTurn.sampleClocks us ms).fetchCommand w
    | .readCmd => .go ((s.takeTurn.returnRead (Config.cmdRead s.cmdReads)).countCmdRead)
    | .readResult => .go (s.takeTurn.returnRead s.result)
    | .noStep f => .stop f

/-- A write of the word `w` to `CMD` at the given clock levels. -/
def commandWrite (w us ms : Word) : HostAccess :=
  { offset := 0, size := .word, kind := .write w us ms }

/-- The agent will make this access next. -/
def HostSeq.push (q : HostSeq) (a : HostAccess) : HostSeq := { q with pending := a :: q.pending }

/-- The control path moves next and writes `w` to `CMD` while the clock inputs stand where they are. -/
def State.offerCommand (s : State) (w : Word) : State :=
  { s with control := s.control.push (commandWrite w s.usClk s.msClk), schedule := .control :: s.schedule }

end Sys2Proof.Machine
end

