-- ==== Sys2Proof/Machine/Step.lean ====
section
/-! DEFINITION. One step of the machine: one command, one port read, one reset, or a wait
(spec/20_memory.md R48, R50); and the host's way to offer the machine one command. -/

namespace Sys2Proof.Machine

open Sys2Proof

/-- One step. -/
def step (s : State) : Host.Outcome State Fault Refusal :=
  match s.fetch with
  | .run i t => exec i t
  | .go t => .next t
  | .stop f => .fault f

/-- `s` with the `nbits`-bit word `w` as the next command write (log 4): the very next step executes it. -/
def State.withFetchWord (s : State) (nbits w : Nat) : State :=
  s.offerCommand (BitVec.ofNat 32 (w % 2 ^ nbits))

end Sys2Proof.Machine
end

