-- ==== Sys2Proof/Machine/Assembler.lean ====
section
/-! DEFINITION. The assembler syntax of spec/30_encoding.md R72: one command a line, operands separated by
commas, numbers decimal or `0x` hexadecimal, `;` starts a comment; and its three pseudo-instructions. Text is
a list of characters (log 16). The block itself never sees it. -/

namespace Sys2Proof.Machine

open Sys2Proof

/-- What may stand between the parts of a line. -/
def isBlank (c : Char) : Bool := c = ' ' || c = '\t' || c = '\r'

/-- Text without the blanks around it. -/
def trimBlanks (cs : List Char) : List Char := ((cs.dropWhile isBlank).reverse.dropWhile isBlank).reverse

/-- The value of a digit in a base of at most 16. -/
def digitIn (base : Nat) (c : Char) : Option Nat :=
  let n := c.toNat
  let d := if 48 ≤ n ∧ n ≤ 57 then n - 48 else if 97 ≤ n ∧ n ≤ 102 then n - 87 else if 65 ≤ n ∧ n ≤ 70 then n - 55 else 16
  if d < base then some d else none

/-- The value of a string of digits, none where it is empty or holds another character. -/
def numberIn (base : Nat) (cs : List Char) : Option Nat :=
  match cs with
  | [] => none
  | _ => cs.foldl (fun acc c => acc.bind fun n => (digitIn base c).map fun d => n * base + d) (some 0)

/-- A number, decimal or `0x` hexadecimal (R72). -/
def numberOf : List Char → Option Nat
  | '0' :: 'x' :: cs => numberIn 16 cs
  | cs => numberIn 10 cs

/-- A numeric operand that fits its field. -/
def numeral (w : Nat) (cs : List Char) : Option (BitVec w) :=
  (numberOf cs).bind fun n => if n < 2 ^ w then some (BitVec.ofNat w n) else none

/-- The mnemonics of R72, the pseudo-instructions among them. -/
inductive Mnemonic
  | core (op : Opcode)
  | vclr
  | bendOn
  | bendOff
deriving DecidableEq, Repr

/-- How the mnemonics are spelt (R68, R72). -/
def mnemonics : List (List Char × Mnemonic) :=
  [(['N', 'O', 'P'], .core .nop), (['P', 'I', 'N', 'I', 'T'], .core .pinit),
   (['P', 'N', 'E', 'X', 'T'], .core .pnext), (['V', 'F', 'I', 'N', 'D'], .core .vfind),
   (['V', 'A', 'S', 'G', 'N'], .core .vasgn), (['V', 'R', 'E', 'L'], .core .vrel),
   (['V', 'R', 'D'], .core .vrd), (['S', 'M', 'O', 'D', 'E'], .core .smode),
   (['S', 'B', 'E', 'N', 'D'], .core .sbend), (['S', 'P', 'E', 'R'], .core .sper),
   (['S', 'W', 'I', 'D'], .core .swid), (['T', 'I', 'C', 'K'], .core .tick),
   (['R', 'D', 'R', 'E', 'G'], .core .rdreg), (['V', 'C', 'L', 'R'], .vclr),
   (['B', 'E', 'N', 'D', 'O', 'N'], .bendOn), (['B', 'E', 'N', 'D', 'O', 'F', 'F'], .bendOff)]

/-- The field names of `VRD` (R72). -/
def fieldNames : List (List Char × BitVec 3) :=
  [(['c', 'h'], 0), (['p', 'i', 't', 'c', 'h'], 1), (['v', 'e', 'l'], 2), (['p', 'e', 'r', 'i', 'o', 'd'], 3),
   (['p', 'h', 'a', 's', 'e'], 4), (['s', 't', 'a', 'r', 't'], 5)]

/-- The mode names of `SMODE` (R72). -/
def modeNames : List (List Char × Mode) :=
  [(['m', 'i', 'd', 'i', '_', 'u', 's', 'b'], .midiUsb), (['m', 'i', 'd', 'i', '_', 'j', 'a', 'c', 'k'], .midiJack),
   (['f', 'i', 'x', 'e', 'd'], .fixed), (['p', 'i', 'n', 'k'], .pink)]

/-- The register names of `RDREG`, the names of spec/20_memory.md R44 in lower case (R72). -/
def registerNames : List (List Char × BitVec 4) :=
  [(['m', 'o', 'd', 'e'], 0x0), (['b', 'e', 'n', 'd'], 0x1), (['p', 'e', 'r', 'i', 'o', 'd', '_', 's', 'p'], 0x2),
   (['w', 'i', 'd', 't', 'h', '_', 's', 'p'], 0x3), (['p', 'r', 'n', 'g', '_', 'x'], 0x4),
   (['p', 'r', 'n', 'g', '_', 'c', 'n', 't'], 0x5), (['s', 'e', 'e', 'd', 'e', 'd'], 0x6),
   (['a', 'c', 'c', '_', 'n', 'e', 'x', 't'], 0x7), (['a', 'c', 'c', '_', 'l', 'a', 's', 't'], 0x8),
   (['a', 'c', 'c', '_', 'a', 'r', 'm', 'e', 'd'], 0x9), (['g', 'a', 't', 'e'], 0xA), (['f', 'a', 'u', 'l', 't'], 0xB),
   (['f', 'a', 'u', 'l', 't', '_', 'c', 'm', 'd'], 0xC), (['c', 'o', 'n', 'f', 'i', 'g'], 0xD)]

/-- The command of a mnemonic with its operands (R72). -/
def assembleCommand : Mnemonic → List (List Char) → Option Instr
  | .core .nop, [] => some .nop
  | .core .pinit, [] => some .pinit
  | .core .pnext, [] => some .pnext
  | .core .vfind, [] => some .vfind
  | .core .tick, [] => some .tick
  | .core .vasgn, [idx, ch, pitch, vel] =>
    (numeral 8 idx).bind fun i => (numeral 4 ch).bind fun c => (numeral 8 pitch).bind fun p =>
      (numeral 8 vel).map fun v => .vasgn i c p v
  | .core .vrel, [idx] => (numeral 8 idx).map .vrel
  | .core .vrd, [idx, fld] => (numeral 8 idx).bind fun i => (fieldNames.lookup fld).map fun f => .vrd i f
  | .core .smode, [m] => (modeNames.lookup m).map .smode
  | .core .sbend, [b] => (numeral 1 b).map fun v => .sbend (v.getLsbD 0)
  | .core .sper, [us] => (numeral 28 us).map .sper
  | .core .swid, [us] => (numeral 28 us).map .swid
  | .core .rdreg, [r] => (registerNames.lookup r).map .rdreg
  | .vclr, [idx] => (numeral 8 idx).map .vrel
  | .bendOn, [] => some (.sbend true)
  | .bendOff, [] => some (.sbend false)
  | _, _ => none

/-- The operands of a line, separated by commas. -/
def operandTexts (cs : List Char) : List (List Char) :=
  match trimBlanks cs with
  | [] => []
  | ds => (ds.splitOn ',').map trimBlanks

/-- One line: no command where it is blank or a comment, the command it spells, or a rejection. -/
def assembleLine (line : List Char) : Option (Option Instr) :=
  let code := trimBlanks (line.takeWhile fun c => c ≠ ';')
  if code = [] then some none
  else
    (mnemonics.lookup (code.takeWhile fun c => !isBlank c)).bind fun m =>
      (assembleCommand m (operandTexts (code.dropWhile fun c => !isBlank c))).map some

/-- The command words of the lines of a program; none where some line is rejected. -/
def assembleLines : List (List Char) → Option (List Word)
  | [] => some []
  | line :: rest =>
    match assembleLine line, assembleLines rest with
    | some none, some ws => some ws
    | some (some i), some ws => some (encode i :: ws)
    | _, _ => none

/-- The command words of a program text (R72). -/
def assemble (src : List Char) : Option (List Word) := assembleLines (src.splitOn '\n')

end Sys2Proof.Machine
end

