-- ==== Sys2Proof/Safety.lean ====
section
/-! DEFINITION. What counts as a good state and a good run, in the terms the statements use: a recorded
fault (spec/60_exceptions.md R122), the slot invariants (spec/10_state.md R18 to R23) and the machine's
invariant, and runs of several commands. -/

namespace Sys2Proof.Machine

open Sys2Proof

/-- A fault is recorded: `FAULT[3:0] != 0` (R122). -/
def State.faulted (s : State) : Bool := causeField s.fault ≠ 0

/-- A slot that holds a voice: legal pitch and velocity, the table's period for that pitch, a phase inside
the period (R16, R20, R21, R23). -/
abbrev Slot.Occupied (P : Params) (v : Slot) : Prop :=
  v.pitch.toNat ≤ 127 ∧ 1 ≤ v.velocity.toNat ∧ v.velocity.toNat ≤ 127 ∧
  v.periodUs = periodOf P v.pitch.toNat ∧ v.phaseUs.toNat < v.periodUs.toNat

/-- A slot is the canonical empty slot or holds a voice (R23, R92). -/
abbrev Slot.Good (P : Params) (v : Slot) : Prop := v = emptySlot P ∨ v.Occupied P

/-- The voice table has exactly `N` slots (R16), each empty or occupied (R23). -/
abbrev State.VoicesGood (s : State) : Prop :=
  s.voices.length = s.cfg.slots ∧ ∀ v ∈ s.voices, v.Good s.cfg

/-- Bits [31:28] of the setpoints are 0 (R26). -/
abbrev State.SetpointsGood (s : State) : Prop :=
  s.periodSp.toNat < 2 ^ 28 ∧ s.widthSp.toNat < 2 ^ 28

/-- While the accumulator is armed, the scheduled interval is a clamped period (R110). -/
abbrev State.AccumulatorGood (s : State) : Prop :=
  s.accArmed = true → s.cfg.pMin ≤ (s.accNext - s.accLast).toNat ∧ (s.accNext - s.accLast).toNat ≤ s.cfg.pMax

/-- `PRNG_CNT` is 0 with the `PLAIN` variant (R29) and before the first `PINIT` (R41: until then no command
writes it). -/
abbrev State.EntropyGood (s : State) : Prop :=
  s.cfg.prngVariant = .plain ∨ s.seeded = false → s.prngCnt = 0

/-- The fault record: causes 8..15 are never recorded (R118), `MULTI` and `FAULT_CMD` only with a cause,
all other bits 0 (R33, R121). -/
abbrev State.FaultRecordGood (s : State) : Prop :=
  (s.fault = 0 ∧ s.faultCmd = 0) ∨
  ∃ c ∈ [Cause.illegalOp, .rsvdBits, .indexRange, .selRange, .pitchRange, .velRange, .unseeded],
    s.fault = zext32 c.code ∨ s.fault = withMulti (zext32 c.code)

/-- The machine's invariant. -/
abbrev State.Inv (s : State) : Prop :=
  s.cfg.Valid ∧ s.VoicesGood ∧ s.SetpointsGood ∧ s.AccumulatorGood ∧ s.EntropyGood ∧ s.FaultRecordGood

/-- Commands executed one after another, with no other agent's command between (R48, R50). -/
def execAll : List Instr → State → Host.Outcome State Fault Refusal
  | [], s => .next s
  | i :: rest, s =>
    match exec i s with
    | .next t => execAll rest t
    | .fault f => .fault f
    | .refused r => .refused r

/-- The Encoding line of a command's rule (R57 to R70): every word whose `OP` is `op` decodes to the command
that `f` reads from it, unless one of the format's reserved bits is set, which is `RSVD_BITS`. -/
def DecodesAs (op : Nat) (reserved : Word) (f : Word → Instr) : Prop :=
  ∀ w : Word, w.toNat / 2 ^ 28 = op →
    decode w = if w &&& reserved = 0 then .ok (f w) else .error .rsvdBits

/-- The agent `q` is about to make the access `a` and has `rest` to come (R128). -/
abbrev HostSeq.NextIs (q : HostSeq) (a : HostAccess) (rest : List HostAccess) : Prop := q.pending = a :: rest

/-- The table's entry for a pitch is `p` (R39). -/
abbrev PeriodIs (P : Params) (pitch : Nat) (p : Word) : Prop := P.periodTable[pitch]? = some p

/-- Slot `i` is one of the `N` slots and holds `v` (R9, R16). -/
abbrev State.SlotIs (s : State) (i : Nat) (v : Slot) : Prop := i < s.cfg.slots ∧ s.voices[i]? = some v

/-- `MODE in {FIXED, PINK}` (R97, R102). -/
abbrev State.FrequencyMode (s : State) : Prop := s.mode = .fixed ∨ s.mode = .pink

/-- The condition of R102 in the words of the rule: a frequency mode, and there bend, or the pink mode of an
instance in which it forces jitter. -/
abbrev State.Jitters (s : State) : Prop :=
  s.FrequencyMode ∧ (s.bend = true ∨ (s.mode = .pink ∧ s.cfg.pinkForcesJitter = true))

/-- A pulse start that needs a draw has a seeded generator (R82, R102). -/
abbrev State.CanDraw (s : State) : Prop := s.Jitters → s.seeded = true

/-- The state as it would be with nothing in the fault record. -/
abbrev State.withoutRecord (s : State) : State := { s with fault := 0, faultCmd := 0 }

/-- A frequency-mode `TICK` now starts a pulse: unarmed, or `ACC_NEXT` has come (R105). -/
abbrev State.Due (s : State) : Prop := s.accArmed = false ∨ 0 ≤ (s.usClk - s.accNext).toInt

end Sys2Proof.Machine
end

