-- ==== Sys2Proof/Certificates/Slice0/Obligations.lean ====
section
/-! DEFINITION. The statements for the provers. "R<n>" is a numbered rule of spec/; the entries of
OBLIGATIONS.json say which rule a statement formalises and which statements are the model's own. -/

open Sys2Proof Sys2Proof.Machine

/-! ### Encoding -/

/-- The decoder reads back every command that the encoder writes, at every operand value (R57 to R69). -/
def Obligations.DecodeOfEncodeIsTheCommand : Prop :=
  ∀ i : Instr, decode (encode i) = .ok i

/-- Every accepted word is the encoding of its command: no bit is ignored and no word has a second reading
(R68, R70). -/
def Obligations.AcceptedWordIsItsEncoding : Prop :=
  ∀ (w : Word) (i : Instr), decode w = .ok i → encode i = w

/-- R69 with the rows of R68 and the operands of R67: what every 32-bit word decodes to. -/
def Obligations.DecodeFollowsTheOpcodeMap : Prop :=
  DecodesAs 0x0 0x0FFFFFFF (fun _ => .nop) ∧
  DecodesAs 0x1 0x0FFFFFFF (fun _ => .pinit) ∧
  DecodesAs 0x2 0x0FFFFFFF (fun _ => .pnext) ∧
  DecodesAs 0x3 0x0FFFFFFF (fun _ => .vfind) ∧
  DecodesAs 0x4 0 (fun w => .vasgn (.ofNat 8 w.toNat) (.ofNat 4 (w.toNat / 2 ^ 24))
    (.ofNat 8 (w.toNat / 2 ^ 16)) (.ofNat 8 (w.toNat / 2 ^ 8))) ∧
  DecodesAs 0x5 0x0FFFFF00 (fun w => .vrel (.ofNat 8 w.toNat)) ∧
  DecodesAs 0x6 0x0FFFF800 (fun w => .vrd (.ofNat 8 w.toNat) (.ofNat 3 (w.toNat / 2 ^ 8))) ∧
  DecodesAs 0x7 0x0FFFFFFC (fun w => .smode
    (if w.toNat % 4 = 0 then .midiUsb else if w.toNat % 4 = 1 then .midiJack
      else if w.toNat % 4 = 2 then .fixed else .pink)) ∧
  DecodesAs 0x8 0x0FFFFFFE (fun w => .sbend (decide (w.toNat % 2 = 1))) ∧
  DecodesAs 0x9 0 (fun w => .sper (.ofNat 28 w.toNat)) ∧
  DecodesAs 0xA 0 (fun w => .swid (.ofNat 28 w.toNat)) ∧
  DecodesAs 0xB 0x0FFFFFFF (fun _ => .tick) ∧
  DecodesAs 0xC 0x0FFFFFF0 (fun w => .rdreg (.ofNat 4 w.toNat)) ∧
  ∀ w : Word, (decode w = .error .illegalOp ↔ 0xD ≤ w.toNat / 2 ^ 28)

/-- Words written out from the formats and examples of the spec decode to their commands. -/
def Obligations.SpecWordsDecode : Prop :=
  decode 0x00000000 = .ok .nop ∧ decode 0x10000000 = .ok .pinit ∧
  decode 0x413C6400 = .ok (.vasgn 0 1 60 100) ∧ decode 0x4F7F7F03 = .ok (.vasgn 3 15 127 127) ∧
  decode 0x60000704 = .ok (.vrd 4 7) ∧ decode 0x70000002 = .ok (.smode .fixed) ∧
  decode 0x900003E8 = .ok (.sper 1000) ∧ decode 0xC000000D = .ok (.rdreg 13) ∧
  decode 0xF1234567 = .error .illegalOp ∧ decode 0x60000800 = .error .rsvdBits

/-! ### The step -/

/-- A step whose actor is an agent about to write a command's word to `CMD` executes that command: the word
is decoded, the clock inputs stand at the levels of the access, the turn is taken and the agent's index
advances by exactly 1 (R34, R37, R49, R69). The schedule and the sequences are the model's form of the host's side
(log 3, log 4). -/
def Obligations.StepRunsTheDecodedCommand : Prop :=
  ∀ (s : State) (w us ms : Word) (i : Instr) (rest : List HostAccess) (turns : List Actor),
    decode w = .ok i →
    (s.schedule = .control :: turns → s.control.NextIs ⟨0, .word, .write w us ms⟩ rest →
      step s = exec i { s with schedule := turns, usClk := us, msClk := ms,
                               control := ⟨s.control.issued + 1, rest⟩ }) ∧
    (s.schedule = .timing :: turns → s.timing.NextIs ⟨0, .word, .write w us ms⟩ rest →
      step s = exec i { s with schedule := turns, usClk := us, msClk := ms,
                               timing := ⟨s.timing.issued + 1, rest⟩ })

/-- A step whose actor writes a word that is no command records the decode fault and changes nothing else of
the VSB (R69, R70, R121). -/
def Obligations.StepRecordsARejectedWord : Prop :=
  ∀ (s : State) (w us ms : Word) (e : DecodeError) (rest : List HostAccess) (turns : List Actor),
    decode w = .error e →
    (s.schedule = .control :: turns → s.control.NextIs ⟨0, .word, .write w us ms⟩ rest →
      step s = .next (State.raise { s with schedule := turns, usClk := us, msClk := ms,
                                           control := ⟨s.control.issued + 1, rest⟩ }
        (if e = .illegalOp then .illegalOp else .rsvdBits) w)) ∧
    (s.schedule = .timing :: turns → s.timing.NextIs ⟨0, .word, .write w us ms⟩ rest →
      step s = .next (State.raise { s with schedule := turns, usClk := us, msClk := ms,
                                           timing := ⟨s.timing.issued + 1, rest⟩ }
        (if e = .illegalOp then .illegalOp else .rsvdBits) w))

/-- The model's own way to place a command (log 4): the very next step executes it, whatever the state. -/
def Obligations.OfferedWordIsExecutedNext : Prop :=
  ∀ (s : State) (w : Nat) (i : Instr), decodeTableWord 32 w = some i →
    step (s.withFetchWord 32 w) =
      exec i { s with control := { s.control with issued := s.control.issued + 1 } }

/-- R40: the value of every piece of state after reset. `PRNG_X` has no value: a read of it faults. -/
def Obligations.ResetRestoresEveryValue : Prop :=
  ∀ (s : State) (turns : List Actor) (p : Word),
    s.schedule = .reset :: turns → PeriodIs s.cfg 0 p →
    ∃ t : State, step s = .next t ∧
      t.voices = List.replicate s.cfg.slots ⟨0, 255, 0, p, 0, 0⟩ ∧
      t.mode = .midiUsb ∧ t.bend = false ∧ t.periodSp = 0 ∧ t.widthSp = 0 ∧
      t.accNext = 0 ∧ t.accLast = 0 ∧ t.accArmed = false ∧ t.prngCnt = 0 ∧ t.seeded = false ∧
      t.gate = false ∧ t.result = 0 ∧ t.fault = 0 ∧ t.faultCmd = 0 ∧
      exec (.rdreg 4) t = .next { t with fault := 7, faultCmd := 0xC0000004 }

/-- The model's choice (log 10): a reset step leaves the instance's parameters, the clock inputs and the host's
side of the ports alone, but for the turn it takes. -/
def Obligations.ResetKeepsTheHostSide : Prop :=
  ∀ (s : State) (turns : List Actor), s.schedule = .reset :: turns →
    ∃ t : State, step s = .next t ∧ t.cfg = s.cfg ∧ t.schedule = turns ∧ t.control = s.control ∧
      t.timing = s.timing ∧ t.usClk = s.usClk ∧ t.msClk = s.msClk ∧ t.readData = s.readData ∧
      t.cmdReads = s.cmdReads

/-- R137: after reset the mode is `MIDI_USB` with an empty table, in which a `TICK` gives `GATE = 0`. -/
def Obligations.FirstTickAfterResetIsSilent : Prop :=
  ∀ (P : Params) (us ms : Word),
    (State.resetWith P).mode = .midiUsb ∧
    (∀ i v, (State.resetWith P).SlotIs i v → v.pitch = 255 ∧ v.velocity = 0) ∧
    exec .tick { State.resetWith P with usClk := us, msClk := ms } =
      .next { State.resetWith P with usClk := us, msClk := ms, gate := false, result := 0 }

/-- The machine after reset satisfies the invariant, whatever the OPEN parameters are. The reset instance is the
model's choice where R5 and R40 leave one (log 1, log 2). -/
def Obligations.ResetSatisfiesTheInvariant : Prop := State.reset.Inv

/-- Every step keeps the invariant: valid parameters, every slot canonical empty or a legal voice with the
table's period and a phase inside it, 28-bit setpoints, an armed interval inside the clamp, a legal fault
record (R18, R20, R21, R23, R26, R29, R33, R110). -/
def Obligations.StepKeepsTheInvariant : Prop :=
  ∀ s t : State, s.Inv → step s = .next t → t.Inv

/-- No step changes a parameter (R35, R39). -/
def Obligations.StepKeepsTheParameters : Prop :=
  ∀ s t : State, step s = .next t → t.cfg = s.cfg

/-- A host access that is not an aligned 32-bit access has no step, nor has a write to the read-only
`RESULT` (the model's choice, log 7): the machine stops with the fault of that name (R45, R47). -/
def Obligations.MisusedPortHasNoStep : Prop :=
  ∀ (s : State) (a : HostAccess) (rest : List HostAccess) (turns : List Actor),
    (s.schedule = .control :: turns ∧ s.control.NextIs a rest) ∨
      (s.schedule = .timing :: turns ∧ s.timing.NextIs a rest) →
    (a.size ≠ .word ∨ (a.offset ≠ 0 ∧ a.offset ≠ 4) → step s = .fault .unalignedPortAccess) ∧
    (a.size = .word ∧ a.offset = 4 ∧ a.kind ≠ .read → step s = .fault .resultPortWrite)

/-- A read of `RESULT` returns it and a read of `CMD` returns some value (log 6); neither has a side effect on the
VSB (R49). -/
def Obligations.PortReadsHaveNoSideEffect : Prop :=
  ∀ (s : State) (rest : List HostAccess) (turns : List Actor),
    (s.schedule = .control :: turns → s.control.NextIs ⟨4, .word, .read⟩ rest →
      step s = .next { s with schedule := turns, control := ⟨s.control.issued + 1, rest⟩,
                              readData := s.result }) ∧
    (s.schedule = .timing :: turns → s.timing.NextIs ⟨4, .word, .read⟩ rest →
      step s = .next { s with schedule := turns, timing := ⟨s.timing.issued + 1, rest⟩,
                              readData := s.result }) ∧
    (s.schedule = .control :: turns → s.control.NextIs ⟨0, .word, .read⟩ rest →
      ∃ v, step s = .next { s with schedule := turns, control := ⟨s.control.issued + 1, rest⟩,
                                   readData := v, cmdReads := s.cmdReads + 1 }) ∧
    (s.schedule = .timing :: turns → s.timing.NextIs ⟨0, .word, .read⟩ rest →
      ∃ v, step s = .next { s with schedule := turns, timing := ⟨s.timing.issued + 1, rest⟩,
                                   readData := v, cmdReads := s.cmdReads + 1 })

/-! ### The fault record -/

/-- R121, with the codes of R118: the first cause and word are kept, a later fault sets `MULTI`, nothing else
changes. -/
def Obligations.RaisingRecordsTheFirstFault : Prop :=
  ∀ (s : State) (c : Cause) (w : Word),
    s.raise c w =
      (if s.fault.toNat % 16 = 0 then
        { s with faultCmd := w, fault := (s.fault &&& 0xFFFFFFF0) |||
            (match c with
              | .illegalOp => 1 | .rsvdBits => 2 | .indexRange => 3 | .selRange => 4
              | .pitchRange => 5 | .velRange => 6 | .unseeded => 7) }
      else { s with fault := s.fault ||| 0x100 })

/-- Faults are precise (R122). Whether a command faults is what it does with a clear record. Where it leaves a
clear record clear, it leaves every record alone; where it records a cause there, its whole effect in every state
is the recording of that cause with its own word, and the state after it is faulted. -/
def Obligations.FaultsArePrecise : Prop :=
  ∀ (i : Instr) (s u : State), exec i s.withoutRecord = .next u →
    (u.fault = 0 → u.faultCmd = 0 ∧
      ∃ t : State, exec i s = .next t ∧ t.fault = s.fault ∧ t.faultCmd = s.faultCmd) ∧
    (u.fault ≠ 0 → ∃ c : Cause, u = s.withoutRecord.raise c (encode i) ∧
      ∃ t : State, exec i s = .next t ∧ t = s.raise c (encode i) ∧ t.faulted = true ∧
        t = { s with fault := t.fault, faultCmd := t.faultCmd })

/-- R124: a fault while one is recorded sets `MULTI` and keeps the first cause and word; the rule's example. -/
def Obligations.SecondFaultSetsMulti : Prop :=
  (∀ (s : State) (c : Cause) (w : Word), s.faulted = true →
    s.raise c w = { s with fault := s.fault ||| 0x100 } ∧ causeField (s.raise c w).fault = causeField s.fault) ∧
  (∀ s : State, s.cfg.slots = 4 → s.fault = 0 →
    exec (.vrel 9) (s.raise .illegalOp 0xD0000000) = .next { s with fault := 0x101, faultCmd := 0xD0000000 })

/-- R123: after a fault the VSB keeps executing commands by their rules: but for the two reads of the record, a
command has the same effect on all else whatever the record holds. No step but a reset clears a bit of `FAULT` or
`FAULT_CMD`: once faulted, only `MULTI` can still be set. A reset clears both. -/
def Obligations.FaultRecordLastsUntilReset : Prop :=
  (∀ (i : Instr) (s : State), ∃ t, exec i s = .next t) ∧
  (∀ (i : Instr) (s t : State) (f w : Word), i ≠ .rdreg 0xB → i ≠ .rdreg 0xC → exec i s = .next t →
    ∃ g v : Word, exec i { s with fault := f, faultCmd := w } = .next { t with fault := g, faultCmd := v }) ∧
  ∀ s t : State, step s = .next t →
    (s.portEvent ≠ .reset → s.fault &&& t.fault = s.fault) ∧
    (s.portEvent ≠ .reset → s.faulted = true →
      (t.fault = s.fault ∨ t.fault = s.fault ||| 0x100) ∧ causeField t.fault = causeField s.fault ∧
      t.faultCmd = s.faultCmd) ∧
    (s.portEvent = .reset → t.fault = 0 ∧ t.faultCmd = 0)

/-! ### The entropy source -/

/-- R74: `Permute` in its three steps, its fixed point 0, that it is a bijection, and its example. -/
def Obligations.PermuteIsABijection : Prop :=
  (∀ x : Word, ∃ y z : Word, y = x ^^^ BitVec.ofNat 32 (x.toNat * 2 ^ 13) ∧
    z = y ^^^ BitVec.ofNat 32 (y.toNat / 2 ^ 17) ∧ permute x = z ^^^ BitVec.ofNat 32 (z.toNat * 2 ^ 5)) ∧
  permute 0 = 0 ∧ Function.Bijective permute ∧ permute 0x00000001 = 0x00042021

/-- R78: byte `k` of a word is its bits `[8k+7:8k]`. -/
def Obligations.ByteLanesAreLeastSignificantFirst : Prop :=
  (∀ (x : Word) (k : BitVec 2), (byteOf x k).toNat = x.toNat / 256 ^ k.toNat % 256) ∧
  byteOf 0x1705B6A0 1 = 0xB6

/-- R76: `PINIT` seeds from the millisecond clock, permutes `WARMUP` times, clears the counter; its corner cases
and example. -/
def Obligations.PinitSeedsAndWarmsUp : Prop :=
  (∀ s : State, exec .pinit s =
    .next { s with prngX := Nat.iterate permute s.cfg.warmup.val (s.cfg.prngMagic - s.msClk),
                   prngCnt := 0, seeded := true }) ∧
  DecodesAs 0x1 0x0FFFFFFF (fun _ => .pinit) ∧
  (∀ s t : State, s.cfg.prngMagic = s.msClk → exec .pinit s = .next t → t.prngX = 0) ∧
  (∀ s : State, s.cfg.prngMagic = 3 → s.msClk = 2 →
    (s.cfg.warmup = 101 → exec .pinit s = .next { s with prngX := 0xDD6E6ABC, prngCnt := 0, seeded := true }) ∧
    (s.cfg.warmup = 100 → exec .pinit s = .next { s with prngX := 0x08C93AF7, prngCnt := 0, seeded := true })) ∧
  Config.resetParams.warmup.val = (if Config.resetParams.prngVariant = .counter then 101 else 100)

/-- R77: a `PINIT` with seed 0 leaves `PRNG_X = 0` and raises no fault; from then on, until another `PINIT`, no
command changes it, and every draw returns 0. -/
def Obligations.ZeroSeedDrawsZeroForever : Prop :=
  (∀ s : State, s.cfg.prngMagic = s.msClk →
    exec .pinit s = .next { s with prngX := 0, prngCnt := 0, seeded := true }) ∧
  (∀ (i : Instr) (s t : State), s.seeded = true → s.prngX = 0 → i ≠ .pinit → exec i s = .next t →
    t.seeded = true ∧ t.prngX = 0) ∧
  (∀ s : State, s.seeded = true → s.prngX = 0 →
    (∃ u, s.draw = .ok (0, u)) ∧ ∃ c : BitVec 2, exec .pnext s = .next { s with prngCnt := c, result := 0 })

/-- R79 and R81: `PNEXT` of a seeded `COUNTER` generator permutes when the counter is 0, advances it modulo 4
and returns the byte that the counter selects. -/
def Obligations.PnextDrawsTheSelectedByte : Prop :=
  ∀ s : State, s.cfg.prngVariant = .counter →
    (s.seeded = true → exec .pnext s =
      (let x := if s.prngCnt.toNat = 0 then permute s.prngX else s.prngX
       let k := if s.cfg.prngSel = .post then (s.prngCnt.toNat + 1) % 4 else s.prngCnt.toNat
       .next { s with prngX := x, prngCnt := .ofNat 2 (s.prngCnt.toNat + 1),
                      result := .ofNat 32 (x.toNat / 2 ^ (8 * k) % 256) })) ∧
    (s.seeded = false → exec .pnext s = .next (s.raise .unseeded 0x20000000))

/-- R80: `PNEXT` of a seeded `PLAIN` generator permutes and returns byte 0; the counter is not used (log 17). -/
def Obligations.PlainPnextPermutesEveryTime : Prop :=
  ∀ s : State, s.cfg.prngVariant = .plain →
    (s.seeded = true → exec .pnext s =
      .next { s with prngX := permute s.prngX, result := .ofNat 32 ((permute s.prngX).toNat % 256) }) ∧
    (s.seeded = false → exec .pnext s = .next (s.raise .unseeded 0x20000000))

/-- R82: a draw while `SEEDED = 0`, by `PNEXT` or by a frequency-mode `TICK` that starts a jittered pulse,
records `UNSEEDED` and changes nothing else. -/
def Obligations.UnseededDrawFaults : Prop :=
  ∀ s : State, s.seeded = false →
    exec .pnext s = .next (s.raise .unseeded 0x20000000) ∧
    (s.Jitters → s.Due → exec .tick s = .next (s.raise .unseeded 0xB0000000))

/-- R79, R81, R84: the stream of a `COUNTER` generator. Draw number `4j + r + 1` (r = 0..3) after a `PINIT`
exposes a byte of the `(j+1)`-th permutation: positions 1, 2, 3, 0 with `POST`, 0, 1, 2, 3 with `PRE`. -/
def Obligations.CounterStreamCoversEveryByte : Prop :=
  ∀ (s : State) (j : Nat) (r : Fin 4),
    s.cfg.prngVariant = .counter → s.seeded = true → s.prngCnt = 0 →
    ∃ t : State, execAll (List.replicate (4 * j + r.val + 1) .pnext) s = .next t ∧
      t.prngX = Nat.iterate permute (j + 1) s.prngX ∧
      t.prngCnt = BitVec.ofNat 2 (r.val + 1) ∧
      t.result = zext32 (byteOf t.prngX
        (if s.cfg.prngSel = .post then BitVec.ofNat 2 (r.val + 1) else BitVec.ofNat 2 r.val))

/-- R83: the bytes drawn after a `PINIT` depend only on its seed and on the number of draws since it. -/
def Obligations.StreamDependsOnlyOnTheSeed : Prop :=
  ∀ (s t u v : State) (n : Nat),
    s.cfg.prngVariant = t.cfg.prngVariant → s.cfg.prngSel = t.cfg.prngSel →
    s.cfg.warmup = t.cfg.warmup → s.cfg.prngMagic - s.msClk = t.cfg.prngMagic - t.msClk →
    execAll (.pinit :: List.replicate (n + 1) .pnext) s = .next u →
    execAll (.pinit :: List.replicate (n + 1) .pnext) t = .next v →
    u.result = v.result ∧ u.prngX = v.prngX ∧ u.prngCnt = v.prngCnt

/-- R28: `PRNG_X` has no value before the first `PINIT`: whatever the model holds in it (log 2), no command's
effect on any other piece of state depends on it, and `PINIT` replaces it. -/
def Obligations.UnseededEntropyWordIsInvisible : Prop :=
  ∀ (i : Instr) (s t : State) (x : Word), s.seeded = false → exec i s = .next t →
    (t.seeded = false ∧ t.prngX = s.prngX ∧
      exec i { s with prngX := x } = .next { t with prngX := x }) ∨
    (i = .pinit ∧ exec i { s with prngX := x } = .next t)

/-- R82, R138: once seeded, the machine stays seeded and records no further `UNSEEDED` until reset. -/
def Obligations.SeededMachineNeverLacksEntropy : Prop :=
  ∀ (i : Instr) (s t : State), s.seeded = true → exec i s = .next t →
    t.seeded = true ∧ (causeField t.fault = 7 → causeField s.fault = 7)

/-! ### The voice table -/

/-- R86: `VFIND` returns the lowest empty slot below `N`, or `0xFFFFFFFF` where none is empty, and writes
nothing else. -/
def Obligations.VfindReturnsTheFirstEmptySlot : Prop :=
  (∀ s : State, s.voices.length = s.cfg.slots →
    ∃ r : Word, exec .vfind s = .next { s with result := r } ∧
      ((∃ i v, s.SlotIs i v ∧ v.pitch = 255 ∧ r = .ofNat 32 i ∧
          ∀ j u, j < i → s.SlotIs j u → u.pitch ≠ 255) ∨
        ((∀ j u, s.SlotIs j u → u.pitch ≠ 255) ∧ r = 0xFFFFFFFF))) ∧
  DecodesAs 0x3 0x0FFFFFFF (fun _ => .vfind)

/-- R88 and R89: a legal `VASGN` writes the whole slot, empty or occupied, and nothing else; an illegal operand
faults, the index before the pitch and the pitch before the velocity (R90, R120), and no slot is written. -/
def Obligations.VasgnWritesTheWholeSlot : Prop :=
  (∀ (s : State) (idx : Byte) (ch : BitVec 4) (pitch vel : Byte) (p : Word),
    idx.toNat < s.cfg.slots → pitch.toNat ≤ 127 → 1 ≤ vel.toNat → vel.toNat ≤ 127 →
    PeriodIs s.cfg pitch.toNat p →
    exec (.vasgn idx ch pitch vel) s =
      (let v : Slot := ⟨ch, pitch, vel, p, .ofNat 32 (s.usClk.toNat % p.toNat), s.msClk⟩
       .next { s with voices := s.voices.set idx.toNat v })) ∧
  (∀ (s : State) (idx : Byte) (ch : BitVec 4) (pitch vel : Byte),
    (s.cfg.slots ≤ idx.toNat → exec (.vasgn idx ch pitch vel) s =
      .next (s.raise .indexRange (encode (.vasgn idx ch pitch vel)))) ∧
    (idx.toNat < s.cfg.slots → 127 < pitch.toNat → exec (.vasgn idx ch pitch vel) s =
      .next (s.raise .pitchRange (encode (.vasgn idx ch pitch vel)))) ∧
    (idx.toNat < s.cfg.slots → pitch.toNat ≤ 127 → vel.toNat = 0 ∨ 127 < vel.toNat →
      exec (.vasgn idx ch pitch vel) s = .next (s.raise .velRange (encode (.vasgn idx ch pitch vel))))) ∧
  DecodesAs 0x4 0 (fun w => .vasgn (.ofNat 8 w.toNat) (.ofNat 4 (w.toNat / 2 ^ 24))
    (.ofNat 8 (w.toNat / 2 ^ 16)) (.ofNat 8 (w.toNat / 2 ^ 8)))

/-- R91 and R92: `VREL` makes the slot the canonical empty slot, or faults `INDEX_RANGE`. -/
def Obligations.VrelEmptiesTheSlot : Prop :=
  (∀ (s : State) (idx : Byte) (p : Word), PeriodIs s.cfg 0 p →
    (idx.toNat < s.cfg.slots → exec (.vrel idx) s =
      .next { s with voices := s.voices.set idx.toNat ⟨0, 255, 0, p, 0, 0⟩ }) ∧
    (s.cfg.slots ≤ idx.toNat → exec (.vrel idx) s = .next (s.raise .indexRange (encode (.vrel idx))))) ∧
  DecodesAs 0x5 0x0FFFFF00 (fun w => .vrel (.ofNat 8 w.toNat))

/-- R93: releasing an empty slot of a good state changes no bit. -/
def Obligations.VrelOfAnEmptySlotChangesNothing : Prop :=
  ∀ (s : State) (idx : Byte) (v : Slot), s.Inv → s.SlotIs idx.toNat v → v.pitch = 255 →
    exec (.vrel idx) s = .next s

/-- R94: `VRD` returns one whole field, zero-extended; the index is checked before the select. -/
def Obligations.VrdReadsOneField : Prop :=
  (∀ (s : State) (idx : Byte) (v : Slot), s.SlotIs idx.toNat v →
    exec (.vrd idx 0) s = .next { s with result := .ofNat 32 v.channel.toNat } ∧
    exec (.vrd idx 1) s = .next { s with result := .ofNat 32 v.pitch.toNat } ∧
    exec (.vrd idx 2) s = .next { s with result := .ofNat 32 v.velocity.toNat } ∧
    exec (.vrd idx 3) s = .next { s with result := v.periodUs } ∧
    exec (.vrd idx 4) s = .next { s with result := v.phaseUs } ∧
    exec (.vrd idx 5) s = .next { s with result := v.startMs }) ∧
  (∀ (s : State) (idx : Byte) (fsel : BitVec 3),
    (s.cfg.slots ≤ idx.toNat →
      exec (.vrd idx fsel) s = .next (s.raise .indexRange (encode (.vrd idx fsel)))) ∧
    (idx.toNat < s.cfg.slots → 5 < fsel.toNat →
      exec (.vrd idx fsel) s = .next (s.raise .selRange (encode (.vrd idx fsel))))) ∧
  DecodesAs 0x6 0x0FFFF800 (fun w => .vrd (.ofNat 8 w.toNat) (.ofNat 3 (w.toNat / 2 ^ 8)))

/-- R95: after a legal `VASGN i` a `VFIND` returns another value than `i`; after `VREL i` it returns an index
at most `i`. -/
def Obligations.AssignThenFindRoundTrip : Prop :=
  ∀ (s : State) (idx : Byte), s.Inv → idx.toNat < s.cfg.slots →
    (∀ (ch : BitVec 4) (pitch vel : Byte), pitch.toNat ≤ 127 → 1 ≤ vel.toNat → vel.toNat ≤ 127 →
      ∃ t : State, execAll [.vasgn idx ch pitch vel, .vfind] s = .next t ∧ t.result.toNat ≠ idx.toNat) ∧
    (∃ t : State, execAll [.vrel idx, .vfind] s = .next t ∧ t.result.toNat ≤ idx.toNat)

/-- R96: after legal `VASGN`s to all `N` indices, `VFIND` returns `0xFFFFFFFF`. -/
def Obligations.FullTableFindsNone : Prop :=
  ∀ (s : State) (notes : List (Byte × BitVec 4 × Byte × Byte)), s.Inv →
    (∀ n ∈ notes, n.1.toNat < s.cfg.slots ∧ n.2.2.1.toNat ≤ 127 ∧ 1 ≤ n.2.2.2.toNat ∧ n.2.2.2.toNat ≤ 127) →
    (∀ i, i < s.cfg.slots → ∃ n ∈ notes, n.1.toNat = i) →
    ∃ t : State,
      execAll (notes.map (fun n => Instr.vasgn n.1 n.2.1 n.2.2.1 n.2.2.2) ++ [.vfind]) s = .next t ∧
      t.result = 0xFFFFFFFF ∧ t.fault = s.fault

/-- R140: find-then-assign is not atomic. If another agent's legal `VASGN` to the same index falls between an
agent's `VFIND` and its `VASGN`, the second voice overwrites the first and no fault is recorded. -/
def Obligations.RacingAssignOverwritesSilently : Prop :=
  ∀ (s : State) (idx : Byte) (c d : BitVec 4) (p q u v : Byte), s.Inv →
    idx.toNat < s.cfg.slots → p.toNat ≤ 127 → q.toNat ≤ 127 →
    1 ≤ u.toNat → u.toNat ≤ 127 → 1 ≤ v.toNat → v.toNat ≤ 127 →
    ∃ t : State, execAll [.vfind, .vasgn idx c p u, .vasgn idx d q v] s = .next t ∧
      t.fault = s.fault ∧ ∃ w : Slot, t.SlotIs idx.toNat w ∧ w.channel = d ∧ w.pitch = q ∧ w.velocity = v

/-! ### Mode and period policy -/

/-- R98: `SMODE` latches the mode, disarms the accumulator, clears the gate, and changes nothing else. -/
def Obligations.SmodeLatchesTheMode : Prop :=
  (∀ (s : State) (m : Mode),
    exec (.smode m) s = .next { s with mode := m, accArmed := false, gate := false }) ∧
  DecodesAs 0x7 0x0FFFFFFC (fun w => .smode
    (if w.toNat % 4 = 0 then .midiUsb else if w.toNat % 4 = 1 then .midiJack
      else if w.toNat % 4 = 2 then .fixed else .pink))

/-- R99: `SBEND` sets the bend flag and changes nothing else. -/
def Obligations.SbendSetsTheFlag : Prop :=
  (∀ (s : State) (b : Bool), exec (.sbend b) s = .next { s with bend := b }) ∧
  DecodesAs 0x8 0x0FFFFFFE (fun w => .sbend (decide (w.toNat % 2 = 1)))

/-- R100 and R101: `SPER` and `SWID` set their setpoint to IMM28, zero-extended, and change nothing else. -/
def Obligations.SetpointsTakeTheImmediate : Prop :=
  (∀ (s : State) (us : BitVec 28),
    exec (.sper us) s = .next { s with periodSp := .ofNat 32 us.toNat } ∧
    exec (.swid us) s = .next { s with widthSp := .ofNat 32 us.toNat }) ∧
  DecodesAs 0x9 0 (fun w => .sper (.ofNat 28 w.toNat)) ∧
  DecodesAs 0xA 0 (fun w => .swid (.ofNat 28 w.toNat))

/-- R103 and R104: in a MIDI mode `TICK` sets the gate to the OR, over the sounding voices, of being in the
first `WIDTH_SP` microseconds of the voice's period, and changes nothing but `GATE` and `RESULT`. -/
def Obligations.MidiTickIsTheOrOfVoices : Prop :=
  ∀ s : State, s.mode = .midiUsb ∨ s.mode = .midiJack → s.voices.length = s.cfg.slots →
    ∃ g : Bool, exec .tick s = .next { s with gate := g, result := if g then 1 else 0 } ∧
      (g = true ↔ ∃ i v, s.SlotIs i v ∧ v.velocity ≠ 0 ∧
        ((s.usClk.toNat : Int) % v.periodUs.toNat + v.periodUs.toNat - v.phaseUs.toNat) % v.periodUs.toNat
          < s.widthSp.toNat)

/-- R111: in a MIDI mode bend, the period setpoint, the entropy state and the accumulator have no effect on a
`TICK`, and it writes none of them. -/
def Obligations.MidiTickIgnoresFrequencyState : Prop :=
  ∀ (s : State) (b sd a : Bool) (sp x n l : Word) (c : BitVec 2),
    s.mode = .midiUsb ∨ s.mode = .midiJack →
    ∃ (g : Bool) (r : Word), exec .tick s = .next { s with gate := g, result := r } ∧
      exec .tick { s with bend := b, periodSp := sp, prngX := x, prngCnt := c, seeded := sd,
                          accNext := n, accLast := l, accArmed := a } =
        .next { s with bend := b, periodSp := sp, prngX := x, prngCnt := c, seeded := sd,
                       accNext := n, accLast := l, accArmed := a, gate := g, result := r }

/-- R112: a nonzero velocity does not scale the pulse: replacing it by another nonzero velocity changes no
`TICK`'s gate or result, in any mode. -/
def Obligations.VelocityDoesNotScaleThePulse : Prop :=
  ∀ (s t u : State) (i : Nat) (v : Slot) (vel : Byte), s.SlotIs i v → v.velocity ≠ 0 → vel ≠ 0 →
    exec .tick s = .next t →
    exec .tick { s with voices := s.voices.set i { v with velocity := vel } } = .next u →
    u.gate = t.gate ∧ u.result = t.result

/-- R88, R104: a voice fires at the `TICK` whose clock sample is its assignment time, and again at every
whole number of its periods after it, as long as the clock has not wrapped. -/
def Obligations.NewVoiceFiresEveryPeriod : Prop :=
  ∀ (s : State) (idx : Byte) (ch : BitVec 4) (pitch vel : Byte) (p now : Word) (k : Nat),
    s.Inv → s.mode = .midiUsb ∨ s.mode = .midiJack → 0 < s.widthSp.toNat →
    idx.toNat < s.cfg.slots → pitch.toNat ≤ 127 → 1 ≤ vel.toNat → vel.toNat ≤ 127 →
    PeriodIs s.cfg pitch.toNat p → now.toNat = s.usClk.toNat + k * p.toNat →
    ∃ t u : State, exec (.vasgn idx ch pitch vel) s = .next t ∧
      exec .tick { t with usClk := now } = .next u ∧ u.gate = true ∧ u.result = 1

/-- R102: `JitterOn()` is the rule's condition; without `PINK_FORCES_JITTER` the two frequency modes behave
identically, so that only bend decides. -/
def Obligations.OnlyBendDecidesJitterUnlessForced : Prop :=
  (∀ s : State, s.jitterOn = true ↔ s.Jitters) ∧
  (∀ s t : State, s.cfg.pinkForcesJitter = false → s.mode = .fixed → exec .tick s = .next t →
    exec .tick { s with mode := .pink } = .next { t with mode := .pink })

/-- R105, R106 without jitter (R102): a frequency-mode `TICK` that is due starts a pulse of the clamped setpoint
period. -/
def Obligations.SteadyTickStartsAPulse : Prop :=
  ∀ s : State, s.cfg.Valid → s.FrequencyMode → ¬ s.Jitters → s.Due →
    exec .tick s =
      (let late : Int := (s.usClk - s.accNext).toInt
       let period : Nat := max s.cfg.pMin (min s.periodSp.toNat s.cfg.pMax)
       let base : Word := if s.accArmed = false ∨ (period : Int) ≤ late then s.usClk else s.accNext
       let g : Bool := decide ((s.usClk - base).toNat < s.widthSp.toNat)
       .next { s with accLast := base, accNext := base + .ofNat 32 period, accArmed := true,
                      gate := g, result := if g then 3 else 2 })

/-- R105, R106 with jitter (R102): a frequency-mode `TICK` that is due draws one byte, as a `PNEXT` would, and starts
a pulse of the clamped `JITTER_FN` period of that byte. -/
def Obligations.JitteredTickDrawsOneByte : Prop :=
  ∀ s : State, s.cfg.Valid → s.Jitters → s.seeded = true → s.Due →
    ∃ u : State, exec .pnext s = .next u ∧
      exec .tick s =
        (let late : Int := (s.usClk - s.accNext).toInt
         let value : Int := jitterValue s.cfg s.periodSp (.ofNat 8 u.result.toNat)
         let period : Int := max (s.cfg.pMin : Int) (min value (s.cfg.pMax : Int))
         let base : Word := if s.accArmed = false ∨ period ≤ late then s.usClk else s.accNext
         let g : Bool := decide ((s.usClk - base).toNat < s.widthSp.toNat)
         .next { s with prngX := u.prngX, prngCnt := u.prngCnt,
                        accLast := base, accNext := base + .ofInt 32 period, accArmed := true,
                        gate := g, result := if g then 3 else 2 })

/-- R105, R108: a frequency-mode `TICK` before `ACC_NEXT` starts no pulse, draws nothing, and leaves the
accumulator alone. -/
def Obligations.EarlyTickOnlySetsTheGate : Prop :=
  ∀ s : State, s.mode = .fixed ∨ s.mode = .pink → s.accArmed = true → (s.usClk - s.accNext).toInt < 0 →
    exec .tick s =
      (let g : Bool := decide ((s.usClk - s.accLast).toNat < s.widthSp.toNat)
       .next { s with gate := g, result := if g then 1 else 0 })

/-- R107: the default jitter function and its examples. -/
def Obligations.DefaultJitterIsSymmetric : Prop :=
  (∀ (P : Params) (step : Nat) (sp : Word) (b : Byte), P.jitter = .default step →
    jitterValue P sp b = sp.toNat + (b.toNat - 128) * step) ∧
  (∀ P : Params, P.jitter = .default 1 → jitterValue P 1000 0xB6 = 1054 ∧ jitterValue P 10 0 = -118)

/-- R109: the `TICK` result word. -/
def Obligations.TickResultBits : Prop :=
  ∀ s t : State, s.CanDraw → exec .tick s = .next t →
    t.result.toNat = (if (s.mode = .fixed ∨ s.mode = .pink) ∧ s.Due then 2 else 0) + (if t.gate then 1 else 0)

/-- R110: for every jitter function the effective period is in `[P_MIN, P_MAX]`, hence positive, and
`ACC_NEXT - ACC_LAST` is that period after every pulse start. -/
def Obligations.PulsePeriodIsClamped : Prop :=
  (∀ (jitter : Word → Byte → Int) (P : Params) (sp : Word) (b : Byte), P.Valid →
    1 ≤ clampPeriod P (jitter sp b) ∧ (P.pMin : Int) ≤ clampPeriod P (jitter sp b) ∧
    clampPeriod P (jitter sp b) ≤ P.pMax) ∧
  (∀ s t : State, s.cfg.Valid → s.mode = .fixed ∨ s.mode = .pink → s.Due → s.CanDraw →
    exec .tick s = .next t →
    ∃ v : Int, ((t.accNext - t.accLast).toNat : Int) = clampPeriod s.cfg v ∧
      (v = s.periodSp.toNat ∨ ∃ b : Byte, v = jitterValue s.cfg s.periodSp b))

/-- R105, R145: an armed `TICK` a whole period or more late re-synchronizes to the clock sample, one less late
starts at `ACC_NEXT`; a sample more than 2^31 - 1 microseconds after `ACC_NEXT` reads as not due: such a `TICK`
writes `GATE` and `RESULT` only. -/
def Obligations.LateTickResynchronizes : Prop :=
  (∀ s t : State, s.cfg.Valid → s.mode = .fixed ∨ s.mode = .pink → s.accArmed = true → s.CanDraw →
    (s.usClk - s.accNext).toNat < 2 ^ 31 → exec .tick s = .next t →
    t.accLast = if (t.accNext - t.accLast).toNat ≤ (s.usClk - s.accNext).toNat then s.usClk else s.accNext) ∧
  (∀ s : State, s.mode = .fixed ∨ s.mode = .pink → s.accArmed = true → 2 ^ 31 ≤ (s.usClk - s.accNext).toNat →
    exec .tick s =
      (let g : Bool := decide ((s.usClk - s.accLast).toNat < s.widthSp.toNat)
       .next { s with gate := g, result := if g then 1 else 0 }))

/-! ### System commands -/

/-- R113: `NOP` changes nothing. -/
def Obligations.NopChangesNothing : Prop :=
  (∀ s : State, exec .nop s = .next s) ∧ DecodesAs 0x0 0x0FFFFFFF (fun _ => .nop)

/-- R44, R114, R115: what `RDREG` returns for every select, and its faults. -/
def Obligations.RdregReadsEveryRegister : Prop :=
  (∀ s : State,
    exec (.rdreg 0x0) s = .next { s with result := match s.mode with
      | .midiUsb => 0 | .midiJack => 1 | .fixed => 2 | .pink => 3 } ∧
    exec (.rdreg 0x1) s = .next { s with result := if s.bend then 1 else 0 } ∧
    exec (.rdreg 0x2) s = .next { s with result := s.periodSp } ∧
    exec (.rdreg 0x3) s = .next { s with result := s.widthSp } ∧
    exec (.rdreg 0x4) s =
      (if s.seeded then .next { s with result := s.prngX } else .next (s.raise .unseeded 0xC0000004)) ∧
    exec (.rdreg 0x5) s = .next { s with result := .ofNat 32 s.prngCnt.toNat } ∧
    exec (.rdreg 0x6) s = .next { s with result := if s.seeded then 1 else 0 } ∧
    exec (.rdreg 0x7) s = .next { s with result := s.accNext } ∧
    exec (.rdreg 0x8) s = .next { s with result := s.accLast } ∧
    exec (.rdreg 0x9) s = .next { s with result := if s.accArmed then 1 else 0 } ∧
    exec (.rdreg 0xA) s = .next { s with result := if s.gate then 1 else 0 } ∧
    exec (.rdreg 0xB) s = .next { s with result := s.fault } ∧
    exec (.rdreg 0xC) s = .next { s with result := s.faultCmd } ∧
    exec (.rdreg 0xD) s = .next { s with result := configWord s.cfg } ∧
    exec (.rdreg 0xE) s = .next (s.raise .selRange 0xC000000E) ∧
    exec (.rdreg 0xF) s = .next (s.raise .selRange 0xC000000F)) ∧
  (∀ s : State, s.Inv → s.faulted = false → exec (.rdreg 0xC) s = .next { s with result := 0 }) ∧
  (∀ s : State, s.Inv → s.cfg.prngVariant = .plain → exec (.rdreg 0x5) s = .next { s with result := 0 }) ∧
  DecodesAs 0xC 0x0FFFFFF0 (fun w => .rdreg (.ofNat 4 w.toNat))

/-- R35: the fields of the `CONFIG` word that `RDREG` returns; all other bits are 0. -/
def Obligations.ConfigWordFields : Prop :=
  ∀ (s : State), s.cfg.Valid →
    ∃ w : Word, exec (.rdreg 0xD) s = .next { s with result := w } ∧
      w.toNat = s.cfg.slots + 2 ^ 12 * (if s.cfg.prngVariant = .plain then 1 else 0) +
        2 ^ 13 * (if s.cfg.prngSel = .pre then 1 else 0) +
        2 ^ 14 * (if s.cfg.pinkForcesJitter then 1 else 0) + 2 ^ 16 * s.cfg.warmup.val

/-! ### Whole-machine rules -/

/-- R41 (the writers), R129: which commands write which piece of state; the timing path's `TICK` writes no
slot; no command touches the clock inputs or the host's side. -/
def Obligations.OnlyItsWritersChangeAPiece : Prop :=
  ∀ (i : Instr) (s t : State), exec i s = .next t →
    (t.voices = s.voices ∨ (∃ idx ch p v, i = .vasgn idx ch p v) ∨ ∃ idx, i = .vrel idx) ∧
    (t.mode = s.mode ∨ ∃ m, i = .smode m) ∧
    (t.bend = s.bend ∨ ∃ b, i = .sbend b) ∧
    (t.periodSp = s.periodSp ∨ ∃ us, i = .sper us) ∧
    (t.widthSp = s.widthSp ∨ ∃ us, i = .swid us) ∧
    (t.accNext = s.accNext ∧ t.accLast = s.accLast ∨ i = .tick) ∧
    (t.accArmed = s.accArmed ∨ i = .tick ∨ ∃ m, i = .smode m) ∧
    (t.prngX = s.prngX ∧ t.prngCnt = s.prngCnt ∨ i = .pinit ∨ i = .pnext ∨ i = .tick) ∧
    (t.seeded = s.seeded ∨ i = .pinit) ∧
    (t.gate = s.gate ∨ i = .tick ∨ ∃ m, i = .smode m) ∧
    (t.result = s.result ∨ i = .pnext ∨ i = .vfind ∨ i = .tick ∨
      (∃ idx f, i = .vrd idx f) ∨ ∃ r, i = .rdreg r) ∧
    t.cfg = s.cfg ∧ t.usClk = s.usClk ∧ t.msClk = s.msClk ∧ t.control = s.control ∧
    t.timing = s.timing ∧ t.schedule = s.schedule ∧ t.readData = s.readData ∧ t.cmdReads = s.cmdReads

/-- R103: `TICK` is the only command that changes `GATE` to 1. -/
def Obligations.OnlyTickFiresTheGate : Prop :=
  ∀ (i : Instr) (s t : State), exec i s = .next t → s.gate = false → t.gate = true → i = .tick

/-- R56: the idempotent commands: repeating one that recorded no fault gives the same state. -/
def Obligations.ReadingAndSettingAreIdempotent : Prop :=
  ∀ (i : Instr) (s t : State),
    i ≠ .pinit → i ≠ .pnext → i ≠ .tick → (∀ idx ch p v, i ≠ .vasgn idx ch p v) →
    exec i s = .next t → t.fault = s.fault → exec i t = .next t

/-- R72: the assembler's pseudo-instructions are other spellings of core words, and a line with a comment
assembles to its word. -/
def Obligations.PseudoInstructionsAreCoreWords : Prop :=
  assemble ['V', 'C', 'L', 'R', ' ', '3'] = some [0x50000003] ∧
  assemble ['B', 'E', 'N', 'D', 'O', 'N'] = some [0x80000001] ∧
  assemble ['B', 'E', 'N', 'D', 'O', 'F', 'F', ' ', ';', 'x'] = some [0x80000000]
end

