-- ==== Sys2Proof/Laws/Bits.lean ====
section
/-! SUPPORT. The small lemmas of the arithmetic primitives. -/

namespace Sys2Proof.Machine

open Sys2Proof

theorem zext32_toNat {w : Nat} (v : BitVec w) (h : w ≤ 32) : (zext32 v).toNat = v.toNat := by
  unfold zext32
  rw [BitVec.toNat_setWidth]
  exact Nat.mod_eq_of_lt (lt_of_lt_of_le v.isLt (Nat.pow_le_pow_right (by omega) h))

/-- A zero-extended value is the word of its number. -/
theorem zext32_eq_ofNat {w : Nat} (v : BitVec w) (h : w ≤ 32) : zext32 v = BitVec.ofNat 32 v.toNat := by
  apply BitVec.eq_of_toNat_eq
  rw [zext32_toNat v h, BitVec.toNat_ofNat]
  exact (Nat.mod_eq_of_lt (lt_of_lt_of_le v.isLt (Nat.pow_le_pow_right (by omega) h))).symm

@[simp] theorem zextBit_false : zextBit false = 0 := rfl

@[simp] theorem zextBit_true : zextBit true = 1 := rfl

/-- Everything `clamp` can do, for bounds in order. -/
theorem clamp_mem (v lo hi : Int) (h : lo ≤ hi) : lo ≤ clamp v lo hi ∧ clamp v lo hi ≤ hi := by
  unfold clamp; split
  · omega
  · split <;> omega

theorem clamp_eq_max_min (v lo hi : Int) (h : lo ≤ hi) : clamp v lo hi = max lo (min v hi) := by
  unfold clamp; split
  · omega
  · split <;> omega

/-- A signed difference is nonnegative exactly where the unsigned one is below 2^31. -/
theorem sdiff_nonneg_iff (a b : Word) : 0 ≤ sdiff a b ↔ (a - b).toNat < 2 ^ 31 := by
  unfold sdiff
  rw [BitVec.toInt_eq_toNat_cond]
  have := (a - b).isLt
  split <;> omega

theorem sdiff_eq_toNat (a b : Word) (h : 0 ≤ sdiff a b) : sdiff a b = (a - b).toNat := by
  rw [sdiff_nonneg_iff] at h
  unfold sdiff
  rw [BitVec.toInt_eq_toNat_cond]
  split <;> omega

end Sys2Proof.Machine
end

