-- ==== Sys2Proof/Laws/Fields.lean ====
section
/-! SUPPORT. Bit fields as arithmetic: a concatenation, an extracted field, a reserved-bit mask. -/

namespace Sys2Proof

/-- A concatenation as a number (R7). -/
theorem append_toNat {n m : Nat} (a : BitVec n) (b : BitVec m) : (a ++ b).toNat = a.toNat * 2 ^ m + b.toNat := by
  rw [BitVec.toNat_append, Nat.shiftLeft_eq, Nat.mul_comm, ← Nat.two_pow_add_eq_or_of_lt b.isLt]

/-- A field of a word as a number: `v[hi:lo]` (R7). -/
theorem field_toNat (w : Word) (lo n : Nat) : (w.extractLsb' lo n).toNat = w.toNat / 2 ^ lo % 2 ^ n := by
  rw [BitVec.extractLsb'_toNat, Nat.shiftRight_eq_div_pow]

theorem field_eq_ofNat (w : Word) (lo n : Nat) : w.extractLsb' lo n = BitVec.ofNat n (w.toNat / 2 ^ lo) := by
  apply BitVec.eq_of_toNat_eq
  rw [field_toNat, BitVec.toNat_ofNat]

theorem opField_toNat (w : Word) : (opField w).toNat = w.toNat / 2 ^ 28 := by
  have := w.isLt
  rw [opField, field_toNat]
  omega

/-- A run of `n` mask bits from bit `lo` is clear exactly where that field is 0. -/
theorem and_mask_eq_zero_iff (w m : Word) (lo n : Nat) (hm : m.toNat = (2 ^ n - 1) * 2 ^ lo) :
    w &&& m = 0 ↔ w.toNat / 2 ^ lo % 2 ^ n = 0 := by
  have h : (w &&& m).toNat = (w.toNat / 2 ^ lo % 2 ^ n) * 2 ^ lo := by
    rw [BitVec.toNat_and, hm]
    apply Nat.eq_of_testBit_eq
    intro i
    rw [Nat.testBit_and, Nat.testBit_mul_two_pow, Nat.testBit_mul_two_pow, Nat.testBit_two_pow_sub_one,
      Nat.testBit_mod_two_pow, Nat.testBit_div_two_pow]
    by_cases hl : lo ≤ i
    · simp [hl, Bool.and_comm]
    · simp [hl]
  rw [← BitVec.toNat_inj, h]
  simp

/-- Every word is its `OP` and its low 28 bits. -/
theorem and_opMask (w : Word) : w &&& 0xF0000000 = opField w ++ 0#28 := by
  have hm : (0xF0000000 : Word) = 0xF#4 ++ 0#28 := by decide
  rw [hm]
  apply BitVec.eq_of_toNat_eq
  rw [append_toNat, opField_toNat, BitVec.toNat_and, append_toNat]
  apply Nat.eq_of_testBit_eq
  intro i
  have hlt := w.isLt
  simp only [BitVec.toNat_ofNat, Nat.zero_mod, Nat.add_zero, Nat.testBit_and, Nat.testBit_mul_two_pow,
    Nat.testBit_div_two_pow]
  by_cases hi : 28 ≤ i
  · by_cases h32 : i < 32
    · have : i = 28 ∨ i = 29 ∨ i = 30 ∨ i = 31 := by omega
      rcases this with h | h | h | h <;> subst h <;> simp <;> intro _ <;> decide
    · have h0 : w.toNat.testBit i = false :=
        Nat.testBit_lt_two_pow (lt_of_lt_of_le hlt (Nat.pow_le_pow_right (by omega) (by omega)))
      simp [h0, show i - 28 + 28 = i by omega]
  · simp [hi]

/-- A row's mask is `OP` and its reserved bits, so the row's test is that the reserved bits are clear (R68). -/
theorem and_mask_eq_match_iff (w r : Word) (hr : r &&& 0xF0000000 = 0) :
    w &&& (0xF0000000 ||| r) = opField w ++ 0#28 ↔ w &&& r = 0 := by
  rw [← and_opMask]
  have hd : w &&& (0xF0000000 ||| r) = (w &&& 0xF0000000) ||| (w &&& r) := by
    ext i hi; simp [Bool.and_or_distrib_left]
  rw [hd]
  constructor
  · intro h
    have h2 : w &&& r = ((w &&& 0xF0000000) ||| (w &&& r)) &&& r := by
      ext i hi; simp; cases w[i] <;> cases r[i] <;> simp
    rw [h2, h, BitVec.and_assoc, BitVec.and_comm 0xF0000000, hr]
    simp
  · intro h; rw [h]; simp

end Sys2Proof
end

