-- ==== Sys2Proof/Laws/Encode.lean ====
section
/-! SUPPORT. The word of each command with operands, as a number (spec/30_encoding.md R72). -/

namespace Sys2Proof

theorem encode_vasgn_toNat (idx : Byte) (ch : BitVec 4) (pitch vel : Byte) :
    (encode (.vasgn idx ch pitch vel)).toNat =
      4 * 2 ^ 28 + ch.toNat * 2 ^ 24 + pitch.toNat * 2 ^ 16 + vel.toNat * 2 ^ 8 + idx.toNat := by
  show BitVec.toNat ((((4#4 ++ ch) ++ pitch) ++ vel) ++ idx) = _
  rw [append_toNat, append_toNat, append_toNat, append_toNat, show BitVec.toNat 4#4 = 4 from rfl]
  generalize ch.toNat = a, pitch.toNat = b, vel.toNat = c, idx.toNat = d
  omega

theorem encode_vrel_toNat (idx : Byte) : (encode (.vrel idx)).toNat = 5 * 2 ^ 28 + idx.toNat := by
  show BitVec.toNat ((5#4 ++ 0#20) ++ idx) = _
  rw [append_toNat, append_toNat, show BitVec.toNat 5#4 = 5 from rfl, show BitVec.toNat 0#20 = 0 from rfl]
  generalize idx.toNat = d
  omega

theorem encode_vrd_toNat (idx : Byte) (fsel : BitVec 3) :
    (encode (.vrd idx fsel)).toNat = 6 * 2 ^ 28 + fsel.toNat * 2 ^ 8 + idx.toNat := by
  show BitVec.toNat (((6#4 ++ 0#17) ++ fsel) ++ idx) = _
  rw [append_toNat, append_toNat, append_toNat, show BitVec.toNat 6#4 = 6 from rfl,
    show BitVec.toNat 0#17 = 0 from rfl]
  generalize fsel.toNat = c, idx.toNat = d
  omega

theorem encode_smode_toNat (m : Mode) : (encode (.smode m)).toNat = 7 * 2 ^ 28 + m.code.toNat := by
  cases m <;> rfl

theorem encode_sbend_toNat (b : Bool) : (encode (.sbend b)).toNat = 8 * 2 ^ 28 + b.toNat := by
  cases b <;> rfl

theorem encode_sper_toNat (us : BitVec 28) : (encode (.sper us)).toNat = 9 * 2 ^ 28 + us.toNat := by
  show BitVec.toNat (9#4 ++ us) = _
  rw [append_toNat, show BitVec.toNat 9#4 = 9 from rfl]

theorem encode_swid_toNat (us : BitVec 28) : (encode (.swid us)).toNat = 10 * 2 ^ 28 + us.toNat := by
  show BitVec.toNat (10#4 ++ us) = _
  rw [append_toNat, show BitVec.toNat 10#4 = 10 from rfl]

theorem encode_rdreg_toNat (rsel : BitVec 4) : (encode (.rdreg rsel)).toNat = 12 * 2 ^ 28 + rsel.toNat := by
  show BitVec.toNat ((12#4 ++ 0#24) ++ rsel) = _
  rw [append_toNat, append_toNat, show BitVec.toNat 12#4 = 12 from rfl, show BitVec.toNat 0#24 = 0 from rfl]
  generalize rsel.toNat = d
  omega

end Sys2Proof
end

