-- ==== Sys2Proof/Laws/Decode.lean ====
section
/-! SUPPORT. What the decoder does with the words of one row, and that the rows do not overlap. -/

namespace Sys2Proof

/-- The rows of the opcode map (R68). -/
def Opcode.all : List Opcode :=
  [.nop, .pinit, .pnext, .vfind, .vasgn, .vrel, .vrd, .smode, .sbend, .sper, .swid, .tick, .rdreg]

/-- No two rows have the same `OP`, so no word selects two rows (R68, R70). -/
theorem opcode_nibbles_distinct : Opcode.all.Pairwise fun a b => a.nibble ≠ b.nibble := by decide

theorem Opcode.ofNibble_nibble (op : Opcode) : Opcode.ofNibble op.nibble = some op := by cases op <;> rfl

namespace Machine

/-- The decoder on the words of one row, from the row's mask and operands (R68, R69). -/
theorem decodesAs_row (op : Opcode) (r : Word) (f : Word → Instr) (hm : op.mask = 0xF0000000 ||| r)
    (hr : r &&& 0xF0000000 = 0) (hb : op.matchBits = op.nibble ++ 0#28) (hf : ∀ w, op.operands w = f w) :
    DecodesAs op.nibble.toNat r f := by
  intro w hw
  have ho : opField w = op.nibble := BitVec.eq_of_toNat_eq (by rw [opField_toNat, hw])
  unfold decode
  simp only [ho, op.ofNibble_nibble, hm, hb]
  rw [← ho, if_congr (and_mask_eq_match_iff w r hr) rfl rfl, hf]

end Machine

end Sys2Proof
end

