-- ==== Sys2Proof/Laws/State.lean ====
section
/-! SUPPORT. One lemma per field per named update of the state, each true by definition. -/

namespace Sys2Proof.Machine

open Sys2Proof

/-! ### `State.setResult` -/

@[simp] theorem State.setResult_cfg (s : State) (w : Word) : (s.setResult w).cfg = s.cfg := rfl
@[simp] theorem State.setResult_voices (s : State) (w : Word) : (s.setResult w).voices = s.voices := rfl
@[simp] theorem State.setResult_mode (s : State) (w : Word) : (s.setResult w).mode = s.mode := rfl
@[simp] theorem State.setResult_bend (s : State) (w : Word) : (s.setResult w).bend = s.bend := rfl
@[simp] theorem State.setResult_periodSp (s : State) (w : Word) : (s.setResult w).periodSp = s.periodSp := rfl
@[simp] theorem State.setResult_widthSp (s : State) (w : Word) : (s.setResult w).widthSp = s.widthSp := rfl
@[simp] theorem State.setResult_accNext (s : State) (w : Word) : (s.setResult w).accNext = s.accNext := rfl
@[simp] theorem State.setResult_accLast (s : State) (w : Word) : (s.setResult w).accLast = s.accLast := rfl
@[simp] theorem State.setResult_accArmed (s : State) (w : Word) : (s.setResult w).accArmed = s.accArmed := rfl
@[simp] theorem State.setResult_prngX (s : State) (w : Word) : (s.setResult w).prngX = s.prngX := rfl
@[simp] theorem State.setResult_prngCnt (s : State) (w : Word) : (s.setResult w).prngCnt = s.prngCnt := rfl
@[simp] theorem State.setResult_seeded (s : State) (w : Word) : (s.setResult w).seeded = s.seeded := rfl
@[simp] theorem State.setResult_gate (s : State) (w : Word) : (s.setResult w).gate = s.gate := rfl
@[simp] theorem State.setResult_result (s : State) (w : Word) : (s.setResult w).result = w := rfl
@[simp] theorem State.setResult_fault (s : State) (w : Word) : (s.setResult w).fault = s.fault := rfl
@[simp] theorem State.setResult_faultCmd (s : State) (w : Word) : (s.setResult w).faultCmd = s.faultCmd := rfl
@[simp] theorem State.setResult_usClk (s : State) (w : Word) : (s.setResult w).usClk = s.usClk := rfl
@[simp] theorem State.setResult_msClk (s : State) (w : Word) : (s.setResult w).msClk = s.msClk := rfl
@[simp] theorem State.setResult_control (s : State) (w : Word) : (s.setResult w).control = s.control := rfl
@[simp] theorem State.setResult_timing (s : State) (w : Word) : (s.setResult w).timing = s.timing := rfl
@[simp] theorem State.setResult_schedule (s : State) (w : Word) : (s.setResult w).schedule = s.schedule := rfl
@[simp] theorem State.setResult_readData (s : State) (w : Word) : (s.setResult w).readData = s.readData := rfl
@[simp] theorem State.setResult_cmdReads (s : State) (w : Word) : (s.setResult w).cmdReads = s.cmdReads := rfl

/-! ### `State.setSlot` -/

@[simp] theorem State.setSlot_cfg (s : State) (i : Nat) (v : Slot) : (s.setSlot i v).cfg = s.cfg := rfl
@[simp] theorem State.setSlot_voices (s : State) (i : Nat) (v : Slot) : (s.setSlot i v).voices = s.voices.set i v := rfl
@[simp] theorem State.setSlot_mode (s : State) (i : Nat) (v : Slot) : (s.setSlot i v).mode = s.mode := rfl
@[simp] theorem State.setSlot_bend (s : State) (i : Nat) (v : Slot) : (s.setSlot i v).bend = s.bend := rfl
@[simp] theorem State.setSlot_periodSp (s : State) (i : Nat) (v : Slot) : (s.setSlot i v).periodSp = s.periodSp := rfl
@[simp] theorem State.setSlot_widthSp (s : State) (i : Nat) (v : Slot) : (s.setSlot i v).widthSp = s.widthSp := rfl
@[simp] theorem State.setSlot_accNext (s : State) (i : Nat) (v : Slot) : (s.setSlot i v).accNext = s.accNext := rfl
@[simp] theorem State.setSlot_accLast (s : State) (i : Nat) (v : Slot) : (s.setSlot i v).accLast = s.accLast := rfl
@[simp] theorem State.setSlot_accArmed (s : State) (i : Nat) (v : Slot) : (s.setSlot i v).accArmed = s.accArmed := rfl
@[simp] theorem State.setSlot_prngX (s : State) (i : Nat) (v : Slot) : (s.setSlot i v).prngX = s.prngX := rfl
@[simp] theorem State.setSlot_prngCnt (s : State) (i : Nat) (v : Slot) : (s.setSlot i v).prngCnt = s.prngCnt := rfl
@[simp] theorem State.setSlot_seeded (s : State) (i : Nat) (v : Slot) : (s.setSlot i v).seeded = s.seeded := rfl
@[simp] theorem State.setSlot_gate (s : State) (i : Nat) (v : Slot) : (s.setSlot i v).gate = s.gate := rfl
@[simp] theorem State.setSlot_result (s : State) (i : Nat) (v : Slot) : (s.setSlot i v).result = s.result := rfl
@[simp] theorem State.setSlot_fault (s : State) (i : Nat) (v : Slot) : (s.setSlot i v).fault = s.fault := rfl
@[simp] theorem State.setSlot_faultCmd (s : State) (i : Nat) (v : Slot) : (s.setSlot i v).faultCmd = s.faultCmd := rfl
@[simp] theorem State.setSlot_usClk (s : State) (i : Nat) (v : Slot) : (s.setSlot i v).usClk = s.usClk := rfl
@[simp] theorem State.setSlot_msClk (s : State) (i : Nat) (v : Slot) : (s.setSlot i v).msClk = s.msClk := rfl
@[simp] theorem State.setSlot_control (s : State) (i : Nat) (v : Slot) : (s.setSlot i v).control = s.control := rfl
@[simp] theorem State.setSlot_timing (s : State) (i : Nat) (v : Slot) : (s.setSlot i v).timing = s.timing := rfl
@[simp] theorem State.setSlot_schedule (s : State) (i : Nat) (v : Slot) : (s.setSlot i v).schedule = s.schedule := rfl
@[simp] theorem State.setSlot_readData (s : State) (i : Nat) (v : Slot) : (s.setSlot i v).readData = s.readData := rfl
@[simp] theorem State.setSlot_cmdReads (s : State) (i : Nat) (v : Slot) : (s.setSlot i v).cmdReads = s.cmdReads := rfl

/-! ### `State.setMode` -/

@[simp] theorem State.setMode_cfg (s : State) (m : Mode) : (s.setMode m).cfg = s.cfg := rfl
@[simp] theorem State.setMode_voices (s : State) (m : Mode) : (s.setMode m).voices = s.voices := rfl
@[simp] theorem State.setMode_mode (s : State) (m : Mode) : (s.setMode m).mode = m := rfl
@[simp] theorem State.setMode_bend (s : State) (m : Mode) : (s.setMode m).bend = s.bend := rfl
@[simp] theorem State.setMode_periodSp (s : State) (m : Mode) : (s.setMode m).periodSp = s.periodSp := rfl
@[simp] theorem State.setMode_widthSp (s : State) (m : Mode) : (s.setMode m).widthSp = s.widthSp := rfl
@[simp] theorem State.setMode_accNext (s : State) (m : Mode) : (s.setMode m).accNext = s.accNext := rfl
@[simp] theorem State.setMode_accLast (s : State) (m : Mode) : (s.setMode m).accLast = s.accLast := rfl
@[simp] theorem State.setMode_accArmed (s : State) (m : Mode) : (s.setMode m).accArmed = s.accArmed := rfl
@[simp] theorem State.setMode_prngX (s : State) (m : Mode) : (s.setMode m).prngX = s.prngX := rfl
@[simp] theorem State.setMode_prngCnt (s : State) (m : Mode) : (s.setMode m).prngCnt = s.prngCnt := rfl
@[simp] theorem State.setMode_seeded (s : State) (m : Mode) : (s.setMode m).seeded = s.seeded := rfl
@[simp] theorem State.setMode_gate (s : State) (m : Mode) : (s.setMode m).gate = s.gate := rfl
@[simp] theorem State.setMode_result (s : State) (m : Mode) : (s.setMode m).result = s.result := rfl
@[simp] theorem State.setMode_fault (s : State) (m : Mode) : (s.setMode m).fault = s.fault := rfl
@[simp] theorem State.setMode_faultCmd (s : State) (m : Mode) : (s.setMode m).faultCmd = s.faultCmd := rfl
@[simp] theorem State.setMode_usClk (s : State) (m : Mode) : (s.setMode m).usClk = s.usClk := rfl
@[simp] theorem State.setMode_msClk (s : State) (m : Mode) : (s.setMode m).msClk = s.msClk := rfl
@[simp] theorem State.setMode_control (s : State) (m : Mode) : (s.setMode m).control = s.control := rfl
@[simp] theorem State.setMode_timing (s : State) (m : Mode) : (s.setMode m).timing = s.timing := rfl
@[simp] theorem State.setMode_schedule (s : State) (m : Mode) : (s.setMode m).schedule = s.schedule := rfl
@[simp] theorem State.setMode_readData (s : State) (m : Mode) : (s.setMode m).readData = s.readData := rfl
@[simp] theorem State.setMode_cmdReads (s : State) (m : Mode) : (s.setMode m).cmdReads = s.cmdReads := rfl

/-! ### `State.setBend` -/

@[simp] theorem State.setBend_cfg (s : State) (b : Bool) : (s.setBend b).cfg = s.cfg := rfl
@[simp] theorem State.setBend_voices (s : State) (b : Bool) : (s.setBend b).voices = s.voices := rfl
@[simp] theorem State.setBend_mode (s : State) (b : Bool) : (s.setBend b).mode = s.mode := rfl
@[simp] theorem State.setBend_bend (s : State) (b : Bool) : (s.setBend b).bend = b := rfl
@[simp] theorem State.setBend_periodSp (s : State) (b : Bool) : (s.setBend b).periodSp = s.periodSp := rfl
@[simp] theorem State.setBend_widthSp (s : State) (b : Bool) : (s.setBend b).widthSp = s.widthSp := rfl
@[simp] theorem State.setBend_accNext (s : State) (b : Bool) : (s.setBend b).accNext = s.accNext := rfl
@[simp] theorem State.setBend_accLast (s : State) (b : Bool) : (s.setBend b).accLast = s.accLast := rfl
@[simp] theorem State.setBend_accArmed (s : State) (b : Bool) : (s.setBend b).accArmed = s.accArmed := rfl
@[simp] theorem State.setBend_prngX (s : State) (b : Bool) : (s.setBend b).prngX = s.prngX := rfl
@[simp] theorem State.setBend_prngCnt (s : State) (b : Bool) : (s.setBend b).prngCnt = s.prngCnt := rfl
@[simp] theorem State.setBend_seeded (s : State) (b : Bool) : (s.setBend b).seeded = s.seeded := rfl
@[simp] theorem State.setBend_gate (s : State) (b : Bool) : (s.setBend b).gate = s.gate := rfl
@[simp] theorem State.setBend_result (s : State) (b : Bool) : (s.setBend b).result = s.result := rfl
@[simp] theorem State.setBend_fault (s : State) (b : Bool) : (s.setBend b).fault = s.fault := rfl
@[simp] theorem State.setBend_faultCmd (s : State) (b : Bool) : (s.setBend b).faultCmd = s.faultCmd := rfl
@[simp] theorem State.setBend_usClk (s : State) (b : Bool) : (s.setBend b).usClk = s.usClk := rfl
@[simp] theorem State.setBend_msClk (s : State) (b : Bool) : (s.setBend b).msClk = s.msClk := rfl
@[simp] theorem State.setBend_control (s : State) (b : Bool) : (s.setBend b).control = s.control := rfl
@[simp] theorem State.setBend_timing (s : State) (b : Bool) : (s.setBend b).timing = s.timing := rfl
@[simp] theorem State.setBend_schedule (s : State) (b : Bool) : (s.setBend b).schedule = s.schedule := rfl
@[simp] theorem State.setBend_readData (s : State) (b : Bool) : (s.setBend b).readData = s.readData := rfl
@[simp] theorem State.setBend_cmdReads (s : State) (b : Bool) : (s.setBend b).cmdReads = s.cmdReads := rfl

/-! ### `State.setPeriodSp` -/

@[simp] theorem State.setPeriodSp_cfg (s : State) (w : Word) : (s.setPeriodSp w).cfg = s.cfg := rfl
@[simp] theorem State.setPeriodSp_voices (s : State) (w : Word) : (s.setPeriodSp w).voices = s.voices := rfl
@[simp] theorem State.setPeriodSp_mode (s : State) (w : Word) : (s.setPeriodSp w).mode = s.mode := rfl
@[simp] theorem State.setPeriodSp_bend (s : State) (w : Word) : (s.setPeriodSp w).bend = s.bend := rfl
@[simp] theorem State.setPeriodSp_periodSp (s : State) (w : Word) : (s.setPeriodSp w).periodSp = w := rfl
@[simp] theorem State.setPeriodSp_widthSp (s : State) (w : Word) : (s.setPeriodSp w).widthSp = s.widthSp := rfl
@[simp] theorem State.setPeriodSp_accNext (s : State) (w : Word) : (s.setPeriodSp w).accNext = s.accNext := rfl
@[simp] theorem State.setPeriodSp_accLast (s : State) (w : Word) : (s.setPeriodSp w).accLast = s.accLast := rfl
@[simp] theorem State.setPeriodSp_accArmed (s : State) (w : Word) : (s.setPeriodSp w).accArmed = s.accArmed := rfl
@[simp] theorem State.setPeriodSp_prngX (s : State) (w : Word) : (s.setPeriodSp w).prngX = s.prngX := rfl
@[simp] theorem State.setPeriodSp_prngCnt (s : State) (w : Word) : (s.setPeriodSp w).prngCnt = s.prngCnt := rfl
@[simp] theorem State.setPeriodSp_seeded (s : State) (w : Word) : (s.setPeriodSp w).seeded = s.seeded := rfl
@[simp] theorem State.setPeriodSp_gate (s : State) (w : Word) : (s.setPeriodSp w).gate = s.gate := rfl
@[simp] theorem State.setPeriodSp_result (s : State) (w : Word) : (s.setPeriodSp w).result = s.result := rfl
@[simp] theorem State.setPeriodSp_fault (s : State) (w : Word) : (s.setPeriodSp w).fault = s.fault := rfl
@[simp] theorem State.setPeriodSp_faultCmd (s : State) (w : Word) : (s.setPeriodSp w).faultCmd = s.faultCmd := rfl
@[simp] theorem State.setPeriodSp_usClk (s : State) (w : Word) : (s.setPeriodSp w).usClk = s.usClk := rfl
@[simp] theorem State.setPeriodSp_msClk (s : State) (w : Word) : (s.setPeriodSp w).msClk = s.msClk := rfl
@[simp] theorem State.setPeriodSp_control (s : State) (w : Word) : (s.setPeriodSp w).control = s.control := rfl
@[simp] theorem State.setPeriodSp_timing (s : State) (w : Word) : (s.setPeriodSp w).timing = s.timing := rfl
@[simp] theorem State.setPeriodSp_schedule (s : State) (w : Word) : (s.setPeriodSp w).schedule = s.schedule := rfl
@[simp] theorem State.setPeriodSp_readData (s : State) (w : Word) : (s.setPeriodSp w).readData = s.readData := rfl
@[simp] theorem State.setPeriodSp_cmdReads (s : State) (w : Word) : (s.setPeriodSp w).cmdReads = s.cmdReads := rfl

/-! ### `State.setWidthSp` -/

@[simp] theorem State.setWidthSp_cfg (s : State) (w : Word) : (s.setWidthSp w).cfg = s.cfg := rfl
@[simp] theorem State.setWidthSp_voices (s : State) (w : Word) : (s.setWidthSp w).voices = s.voices := rfl
@[simp] theorem State.setWidthSp_mode (s : State) (w : Word) : (s.setWidthSp w).mode = s.mode := rfl
@[simp] theorem State.setWidthSp_bend (s : State) (w : Word) : (s.setWidthSp w).bend = s.bend := rfl
@[simp] theorem State.setWidthSp_periodSp (s : State) (w : Word) : (s.setWidthSp w).periodSp = s.periodSp := rfl
@[simp] theorem State.setWidthSp_widthSp (s : State) (w : Word) : (s.setWidthSp w).widthSp = w := rfl
@[simp] theorem State.setWidthSp_accNext (s : State) (w : Word) : (s.setWidthSp w).accNext = s.accNext := rfl
@[simp] theorem State.setWidthSp_accLast (s : State) (w : Word) : (s.setWidthSp w).accLast = s.accLast := rfl
@[simp] theorem State.setWidthSp_accArmed (s : State) (w : Word) : (s.setWidthSp w).accArmed = s.accArmed := rfl
@[simp] theorem State.setWidthSp_prngX (s : State) (w : Word) : (s.setWidthSp w).prngX = s.prngX := rfl
@[simp] theorem State.setWidthSp_prngCnt (s : State) (w : Word) : (s.setWidthSp w).prngCnt = s.prngCnt := rfl
@[simp] theorem State.setWidthSp_seeded (s : State) (w : Word) : (s.setWidthSp w).seeded = s.seeded := rfl
@[simp] theorem State.setWidthSp_gate (s : State) (w : Word) : (s.setWidthSp w).gate = s.gate := rfl
@[simp] theorem State.setWidthSp_result (s : State) (w : Word) : (s.setWidthSp w).result = s.result := rfl
@[simp] theorem State.setWidthSp_fault (s : State) (w : Word) : (s.setWidthSp w).fault = s.fault := rfl
@[simp] theorem State.setWidthSp_faultCmd (s : State) (w : Word) : (s.setWidthSp w).faultCmd = s.faultCmd := rfl
@[simp] theorem State.setWidthSp_usClk (s : State) (w : Word) : (s.setWidthSp w).usClk = s.usClk := rfl
@[simp] theorem State.setWidthSp_msClk (s : State) (w : Word) : (s.setWidthSp w).msClk = s.msClk := rfl
@[simp] theorem State.setWidthSp_control (s : State) (w : Word) : (s.setWidthSp w).control = s.control := rfl
@[simp] theorem State.setWidthSp_timing (s : State) (w : Word) : (s.setWidthSp w).timing = s.timing := rfl
@[simp] theorem State.setWidthSp_schedule (s : State) (w : Word) : (s.setWidthSp w).schedule = s.schedule := rfl
@[simp] theorem State.setWidthSp_readData (s : State) (w : Word) : (s.setWidthSp w).readData = s.readData := rfl
@[simp] theorem State.setWidthSp_cmdReads (s : State) (w : Word) : (s.setWidthSp w).cmdReads = s.cmdReads := rfl

/-! ### `State.setArmed` -/

@[simp] theorem State.setArmed_cfg (s : State) (b : Bool) : (s.setArmed b).cfg = s.cfg := rfl
@[simp] theorem State.setArmed_voices (s : State) (b : Bool) : (s.setArmed b).voices = s.voices := rfl
@[simp] theorem State.setArmed_mode (s : State) (b : Bool) : (s.setArmed b).mode = s.mode := rfl
@[simp] theorem State.setArmed_bend (s : State) (b : Bool) : (s.setArmed b).bend = s.bend := rfl
@[simp] theorem State.setArmed_periodSp (s : State) (b : Bool) : (s.setArmed b).periodSp = s.periodSp := rfl
@[simp] theorem State.setArmed_widthSp (s : State) (b : Bool) : (s.setArmed b).widthSp = s.widthSp := rfl
@[simp] theorem State.setArmed_accNext (s : State) (b : Bool) : (s.setArmed b).accNext = s.accNext := rfl
@[simp] theorem State.setArmed_accLast (s : State) (b : Bool) : (s.setArmed b).accLast = s.accLast := rfl
@[simp] theorem State.setArmed_accArmed (s : State) (b : Bool) : (s.setArmed b).accArmed = b := rfl
@[simp] theorem State.setArmed_prngX (s : State) (b : Bool) : (s.setArmed b).prngX = s.prngX := rfl
@[simp] theorem State.setArmed_prngCnt (s : State) (b : Bool) : (s.setArmed b).prngCnt = s.prngCnt := rfl
@[simp] theorem State.setArmed_seeded (s : State) (b : Bool) : (s.setArmed b).seeded = s.seeded := rfl
@[simp] theorem State.setArmed_gate (s : State) (b : Bool) : (s.setArmed b).gate = s.gate := rfl
@[simp] theorem State.setArmed_result (s : State) (b : Bool) : (s.setArmed b).result = s.result := rfl
@[simp] theorem State.setArmed_fault (s : State) (b : Bool) : (s.setArmed b).fault = s.fault := rfl
@[simp] theorem State.setArmed_faultCmd (s : State) (b : Bool) : (s.setArmed b).faultCmd = s.faultCmd := rfl
@[simp] theorem State.setArmed_usClk (s : State) (b : Bool) : (s.setArmed b).usClk = s.usClk := rfl
@[simp] theorem State.setArmed_msClk (s : State) (b : Bool) : (s.setArmed b).msClk = s.msClk := rfl
@[simp] theorem State.setArmed_control (s : State) (b : Bool) : (s.setArmed b).control = s.control := rfl
@[simp] theorem State.setArmed_timing (s : State) (b : Bool) : (s.setArmed b).timing = s.timing := rfl
@[simp] theorem State.setArmed_schedule (s : State) (b : Bool) : (s.setArmed b).schedule = s.schedule := rfl
@[simp] theorem State.setArmed_readData (s : State) (b : Bool) : (s.setArmed b).readData = s.readData := rfl
@[simp] theorem State.setArmed_cmdReads (s : State) (b : Bool) : (s.setArmed b).cmdReads = s.cmdReads := rfl

/-! ### `State.schedulePulse` -/

@[simp] theorem State.schedulePulse_cfg (s : State) (l n : Word) : (s.schedulePulse l n).cfg = s.cfg := rfl
@[simp] theorem State.schedulePulse_voices (s : State) (l n : Word) : (s.schedulePulse l n).voices = s.voices := rfl
@[simp] theorem State.schedulePulse_mode (s : State) (l n : Word) : (s.schedulePulse l n).mode = s.mode := rfl
@[simp] theorem State.schedulePulse_bend (s : State) (l n : Word) : (s.schedulePulse l n).bend = s.bend := rfl
@[simp] theorem State.schedulePulse_periodSp (s : State) (l n : Word) : (s.schedulePulse l n).periodSp = s.periodSp := rfl
@[simp] theorem State.schedulePulse_widthSp (s : State) (l n : Word) : (s.schedulePulse l n).widthSp = s.widthSp := rfl
@[simp] theorem State.schedulePulse_accNext (s : State) (l n : Word) : (s.schedulePulse l n).accNext = n := rfl
@[simp] theorem State.schedulePulse_accLast (s : State) (l n : Word) : (s.schedulePulse l n).accLast = l := rfl
@[simp] theorem State.schedulePulse_accArmed (s : State) (l n : Word) : (s.schedulePulse l n).accArmed = true := rfl
@[simp] theorem State.schedulePulse_prngX (s : State) (l n : Word) : (s.schedulePulse l n).prngX = s.prngX := rfl
@[simp] theorem State.schedulePulse_prngCnt (s : State) (l n : Word) : (s.schedulePulse l n).prngCnt = s.prngCnt := rfl
@[simp] theorem State.schedulePulse_seeded (s : State) (l n : Word) : (s.schedulePulse l n).seeded = s.seeded := rfl
@[simp] theorem State.schedulePulse_gate (s : State) (l n : Word) : (s.schedulePulse l n).gate = s.gate := rfl
@[simp] theorem State.schedulePulse_result (s : State) (l n : Word) : (s.schedulePulse l n).result = s.result := rfl
@[simp] theorem State.schedulePulse_fault (s : State) (l n : Word) : (s.schedulePulse l n).fault = s.fault := rfl
@[simp] theorem State.schedulePulse_faultCmd (s : State) (l n : Word) : (s.schedulePulse l n).faultCmd = s.faultCmd := rfl
@[simp] theorem State.schedulePulse_usClk (s : State) (l n : Word) : (s.schedulePulse l n).usClk = s.usClk := rfl
@[simp] theorem State.schedulePulse_msClk (s : State) (l n : Word) : (s.schedulePulse l n).msClk = s.msClk := rfl
@[simp] theorem State.schedulePulse_control (s : State) (l n : Word) : (s.schedulePulse l n).control = s.control := rfl
@[simp] theorem State.schedulePulse_timing (s : State) (l n : Word) : (s.schedulePulse l n).timing = s.timing := rfl
@[simp] theorem State.schedulePulse_schedule (s : State) (l n : Word) : (s.schedulePulse l n).schedule = s.schedule := rfl
@[simp] theorem State.schedulePulse_readData (s : State) (l n : Word) : (s.schedulePulse l n).readData = s.readData := rfl
@[simp] theorem State.schedulePulse_cmdReads (s : State) (l n : Word) : (s.schedulePulse l n).cmdReads = s.cmdReads := rfl

/-! ### `State.setPrng` -/

@[simp] theorem State.setPrng_cfg (s : State) (x : Word) (c : BitVec 2) : (s.setPrng x c).cfg = s.cfg := rfl
@[simp] theorem State.setPrng_voices (s : State) (x : Word) (c : BitVec 2) : (s.setPrng x c).voices = s.voices := rfl
@[simp] theorem State.setPrng_mode (s : State) (x : Word) (c : BitVec 2) : (s.setPrng x c).mode = s.mode := rfl
@[simp] theorem State.setPrng_bend (s : State) (x : Word) (c : BitVec 2) : (s.setPrng x c).bend = s.bend := rfl
@[simp] theorem State.setPrng_periodSp (s : State) (x : Word) (c : BitVec 2) : (s.setPrng x c).periodSp = s.periodSp := rfl
@[simp] theorem State.setPrng_widthSp (s : State) (x : Word) (c : BitVec 2) : (s.setPrng x c).widthSp = s.widthSp := rfl
@[simp] theorem State.setPrng_accNext (s : State) (x : Word) (c : BitVec 2) : (s.setPrng x c).accNext = s.accNext := rfl
@[simp] theorem State.setPrng_accLast (s : State) (x : Word) (c : BitVec 2) : (s.setPrng x c).accLast = s.accLast := rfl
@[simp] theorem State.setPrng_accArmed (s : State) (x : Word) (c : BitVec 2) : (s.setPrng x c).accArmed = s.accArmed := rfl
@[simp] theorem State.setPrng_prngX (s : State) (x : Word) (c : BitVec 2) : (s.setPrng x c).prngX = x := rfl
@[simp] theorem State.setPrng_prngCnt (s : State) (x : Word) (c : BitVec 2) : (s.setPrng x c).prngCnt = c := rfl
@[simp] theorem State.setPrng_seeded (s : State) (x : Word) (c : BitVec 2) : (s.setPrng x c).seeded = s.seeded := rfl
@[simp] theorem State.setPrng_gate (s : State) (x : Word) (c : BitVec 2) : (s.setPrng x c).gate = s.gate := rfl
@[simp] theorem State.setPrng_result (s : State) (x : Word) (c : BitVec 2) : (s.setPrng x c).result = s.result := rfl
@[simp] theorem State.setPrng_fault (s : State) (x : Word) (c : BitVec 2) : (s.setPrng x c).fault = s.fault := rfl
@[simp] theorem State.setPrng_faultCmd (s : State) (x : Word) (c : BitVec 2) : (s.setPrng x c).faultCmd = s.faultCmd := rfl
@[simp] theorem State.setPrng_usClk (s : State) (x : Word) (c : BitVec 2) : (s.setPrng x c).usClk = s.usClk := rfl
@[simp] theorem State.setPrng_msClk (s : State) (x : Word) (c : BitVec 2) : (s.setPrng x c).msClk = s.msClk := rfl
@[simp] theorem State.setPrng_control (s : State) (x : Word) (c : BitVec 2) : (s.setPrng x c).control = s.control := rfl
@[simp] theorem State.setPrng_timing (s : State) (x : Word) (c : BitVec 2) : (s.setPrng x c).timing = s.timing := rfl
@[simp] theorem State.setPrng_schedule (s : State) (x : Word) (c : BitVec 2) : (s.setPrng x c).schedule = s.schedule := rfl
@[simp] theorem State.setPrng_readData (s : State) (x : Word) (c : BitVec 2) : (s.setPrng x c).readData = s.readData := rfl
@[simp] theorem State.setPrng_cmdReads (s : State) (x : Word) (c : BitVec 2) : (s.setPrng x c).cmdReads = s.cmdReads := rfl

/-! ### `State.markSeeded` -/

@[simp] theorem State.markSeeded_cfg (s : State) : (s.markSeeded).cfg = s.cfg := rfl
@[simp] theorem State.markSeeded_voices (s : State) : (s.markSeeded).voices = s.voices := rfl
@[simp] theorem State.markSeeded_mode (s : State) : (s.markSeeded).mode = s.mode := rfl
@[simp] theorem State.markSeeded_bend (s : State) : (s.markSeeded).bend = s.bend := rfl
@[simp] theorem State.markSeeded_periodSp (s : State) : (s.markSeeded).periodSp = s.periodSp := rfl
@[simp] theorem State.markSeeded_widthSp (s : State) : (s.markSeeded).widthSp = s.widthSp := rfl
@[simp] theorem State.markSeeded_accNext (s : State) : (s.markSeeded).accNext = s.accNext := rfl
@[simp] theorem State.markSeeded_accLast (s : State) : (s.markSeeded).accLast = s.accLast := rfl
@[simp] theorem State.markSeeded_accArmed (s : State) : (s.markSeeded).accArmed = s.accArmed := rfl
@[simp] theorem State.markSeeded_prngX (s : State) : (s.markSeeded).prngX = s.prngX := rfl
@[simp] theorem State.markSeeded_prngCnt (s : State) : (s.markSeeded).prngCnt = s.prngCnt := rfl
@[simp] theorem State.markSeeded_seeded (s : State) : (s.markSeeded).seeded = true := rfl
@[simp] theorem State.markSeeded_gate (s : State) : (s.markSeeded).gate = s.gate := rfl
@[simp] theorem State.markSeeded_result (s : State) : (s.markSeeded).result = s.result := rfl
@[simp] theorem State.markSeeded_fault (s : State) : (s.markSeeded).fault = s.fault := rfl
@[simp] theorem State.markSeeded_faultCmd (s : State) : (s.markSeeded).faultCmd = s.faultCmd := rfl
@[simp] theorem State.markSeeded_usClk (s : State) : (s.markSeeded).usClk = s.usClk := rfl
@[simp] theorem State.markSeeded_msClk (s : State) : (s.markSeeded).msClk = s.msClk := rfl
@[simp] theorem State.markSeeded_control (s : State) : (s.markSeeded).control = s.control := rfl
@[simp] theorem State.markSeeded_timing (s : State) : (s.markSeeded).timing = s.timing := rfl
@[simp] theorem State.markSeeded_schedule (s : State) : (s.markSeeded).schedule = s.schedule := rfl
@[simp] theorem State.markSeeded_readData (s : State) : (s.markSeeded).readData = s.readData := rfl
@[simp] theorem State.markSeeded_cmdReads (s : State) : (s.markSeeded).cmdReads = s.cmdReads := rfl

/-! ### `State.setGate` -/

@[simp] theorem State.setGate_cfg (s : State) (g : Bool) : (s.setGate g).cfg = s.cfg := rfl
@[simp] theorem State.setGate_voices (s : State) (g : Bool) : (s.setGate g).voices = s.voices := rfl
@[simp] theorem State.setGate_mode (s : State) (g : Bool) : (s.setGate g).mode = s.mode := rfl
@[simp] theorem State.setGate_bend (s : State) (g : Bool) : (s.setGate g).bend = s.bend := rfl
@[simp] theorem State.setGate_periodSp (s : State) (g : Bool) : (s.setGate g).periodSp = s.periodSp := rfl
@[simp] theorem State.setGate_widthSp (s : State) (g : Bool) : (s.setGate g).widthSp = s.widthSp := rfl
@[simp] theorem State.setGate_accNext (s : State) (g : Bool) : (s.setGate g).accNext = s.accNext := rfl
@[simp] theorem State.setGate_accLast (s : State) (g : Bool) : (s.setGate g).accLast = s.accLast := rfl
@[simp] theorem State.setGate_accArmed (s : State) (g : Bool) : (s.setGate g).accArmed = s.accArmed := rfl
@[simp] theorem State.setGate_prngX (s : State) (g : Bool) : (s.setGate g).prngX = s.prngX := rfl
@[simp] theorem State.setGate_prngCnt (s : State) (g : Bool) : (s.setGate g).prngCnt = s.prngCnt := rfl
@[simp] theorem State.setGate_seeded (s : State) (g : Bool) : (s.setGate g).seeded = s.seeded := rfl
@[simp] theorem State.setGate_gate (s : State) (g : Bool) : (s.setGate g).gate = g := rfl
@[simp] theorem State.setGate_result (s : State) (g : Bool) : (s.setGate g).result = s.result := rfl
@[simp] theorem State.setGate_fault (s : State) (g : Bool) : (s.setGate g).fault = s.fault := rfl
@[simp] theorem State.setGate_faultCmd (s : State) (g : Bool) : (s.setGate g).faultCmd = s.faultCmd := rfl
@[simp] theorem State.setGate_usClk (s : State) (g : Bool) : (s.setGate g).usClk = s.usClk := rfl
@[simp] theorem State.setGate_msClk (s : State) (g : Bool) : (s.setGate g).msClk = s.msClk := rfl
@[simp] theorem State.setGate_control (s : State) (g : Bool) : (s.setGate g).control = s.control := rfl
@[simp] theorem State.setGate_timing (s : State) (g : Bool) : (s.setGate g).timing = s.timing := rfl
@[simp] theorem State.setGate_schedule (s : State) (g : Bool) : (s.setGate g).schedule = s.schedule := rfl
@[simp] theorem State.setGate_readData (s : State) (g : Bool) : (s.setGate g).readData = s.readData := rfl
@[simp] theorem State.setGate_cmdReads (s : State) (g : Bool) : (s.setGate g).cmdReads = s.cmdReads := rfl

/-! ### `State.setFault` -/

@[simp] theorem State.setFault_cfg (s : State) (f w : Word) : (s.setFault f w).cfg = s.cfg := rfl
@[simp] theorem State.setFault_voices (s : State) (f w : Word) : (s.setFault f w).voices = s.voices := rfl
@[simp] theorem State.setFault_mode (s : State) (f w : Word) : (s.setFault f w).mode = s.mode := rfl
@[simp] theorem State.setFault_bend (s : State) (f w : Word) : (s.setFault f w).bend = s.bend := rfl
@[simp] theorem State.setFault_periodSp (s : State) (f w : Word) : (s.setFault f w).periodSp = s.periodSp := rfl
@[simp] theorem State.setFault_widthSp (s : State) (f w : Word) : (s.setFault f w).widthSp = s.widthSp := rfl
@[simp] theorem State.setFault_accNext (s : State) (f w : Word) : (s.setFault f w).accNext = s.accNext := rfl
@[simp] theorem State.setFault_accLast (s : State) (f w : Word) : (s.setFault f w).accLast = s.accLast := rfl
@[simp] theorem State.setFault_accArmed (s : State) (f w : Word) : (s.setFault f w).accArmed = s.accArmed := rfl
@[simp] theorem State.setFault_prngX (s : State) (f w : Word) : (s.setFault f w).prngX = s.prngX := rfl
@[simp] theorem State.setFault_prngCnt (s : State) (f w : Word) : (s.setFault f w).prngCnt = s.prngCnt := rfl
@[simp] theorem State.setFault_seeded (s : State) (f w : Word) : (s.setFault f w).seeded = s.seeded := rfl
@[simp] theorem State.setFault_gate (s : State) (f w : Word) : (s.setFault f w).gate = s.gate := rfl
@[simp] theorem State.setFault_result (s : State) (f w : Word) : (s.setFault f w).result = s.result := rfl
@[simp] theorem State.setFault_fault (s : State) (f w : Word) : (s.setFault f w).fault = f := rfl
@[simp] theorem State.setFault_faultCmd (s : State) (f w : Word) : (s.setFault f w).faultCmd = w := rfl
@[simp] theorem State.setFault_usClk (s : State) (f w : Word) : (s.setFault f w).usClk = s.usClk := rfl
@[simp] theorem State.setFault_msClk (s : State) (f w : Word) : (s.setFault f w).msClk = s.msClk := rfl
@[simp] theorem State.setFault_control (s : State) (f w : Word) : (s.setFault f w).control = s.control := rfl
@[simp] theorem State.setFault_timing (s : State) (f w : Word) : (s.setFault f w).timing = s.timing := rfl
@[simp] theorem State.setFault_schedule (s : State) (f w : Word) : (s.setFault f w).schedule = s.schedule := rfl
@[simp] theorem State.setFault_readData (s : State) (f w : Word) : (s.setFault f w).readData = s.readData := rfl
@[simp] theorem State.setFault_cmdReads (s : State) (f w : Word) : (s.setFault f w).cmdReads = s.cmdReads := rfl

/-! ### `State.showTick` -/

@[simp] theorem State.showTick_cfg (s : State) (b g : Bool) : (s.showTick b g).cfg = s.cfg := rfl
@[simp] theorem State.showTick_voices (s : State) (b g : Bool) : (s.showTick b g).voices = s.voices := rfl
@[simp] theorem State.showTick_mode (s : State) (b g : Bool) : (s.showTick b g).mode = s.mode := rfl
@[simp] theorem State.showTick_bend (s : State) (b g : Bool) : (s.showTick b g).bend = s.bend := rfl
@[simp] theorem State.showTick_periodSp (s : State) (b g : Bool) : (s.showTick b g).periodSp = s.periodSp := rfl
@[simp] theorem State.showTick_widthSp (s : State) (b g : Bool) : (s.showTick b g).widthSp = s.widthSp := rfl
@[simp] theorem State.showTick_accNext (s : State) (b g : Bool) : (s.showTick b g).accNext = s.accNext := rfl
@[simp] theorem State.showTick_accLast (s : State) (b g : Bool) : (s.showTick b g).accLast = s.accLast := rfl
@[simp] theorem State.showTick_accArmed (s : State) (b g : Bool) : (s.showTick b g).accArmed = s.accArmed := rfl
@[simp] theorem State.showTick_prngX (s : State) (b g : Bool) : (s.showTick b g).prngX = s.prngX := rfl
@[simp] theorem State.showTick_prngCnt (s : State) (b g : Bool) : (s.showTick b g).prngCnt = s.prngCnt := rfl
@[simp] theorem State.showTick_seeded (s : State) (b g : Bool) : (s.showTick b g).seeded = s.seeded := rfl
@[simp] theorem State.showTick_gate (s : State) (b g : Bool) : (s.showTick b g).gate = g := rfl
@[simp] theorem State.showTick_result (s : State) (b g : Bool) : (s.showTick b g).result = tickResult b g := rfl
@[simp] theorem State.showTick_fault (s : State) (b g : Bool) : (s.showTick b g).fault = s.fault := rfl
@[simp] theorem State.showTick_faultCmd (s : State) (b g : Bool) : (s.showTick b g).faultCmd = s.faultCmd := rfl
@[simp] theorem State.showTick_usClk (s : State) (b g : Bool) : (s.showTick b g).usClk = s.usClk := rfl
@[simp] theorem State.showTick_msClk (s : State) (b g : Bool) : (s.showTick b g).msClk = s.msClk := rfl
@[simp] theorem State.showTick_control (s : State) (b g : Bool) : (s.showTick b g).control = s.control := rfl
@[simp] theorem State.showTick_timing (s : State) (b g : Bool) : (s.showTick b g).timing = s.timing := rfl
@[simp] theorem State.showTick_schedule (s : State) (b g : Bool) : (s.showTick b g).schedule = s.schedule := rfl
@[simp] theorem State.showTick_readData (s : State) (b g : Bool) : (s.showTick b g).readData = s.readData := rfl
@[simp] theorem State.showTick_cmdReads (s : State) (b g : Bool) : (s.showTick b g).cmdReads = s.cmdReads := rfl

/-! ### `State.sampleClocks` -/

@[simp] theorem State.sampleClocks_cfg (s : State) (us ms : Word) : (s.sampleClocks us ms).cfg = s.cfg := rfl
@[simp] theorem State.sampleClocks_voices (s : State) (us ms : Word) : (s.sampleClocks us ms).voices = s.voices := rfl
@[simp] theorem State.sampleClocks_mode (s : State) (us ms : Word) : (s.sampleClocks us ms).mode = s.mode := rfl
@[simp] theorem State.sampleClocks_bend (s : State) (us ms : Word) : (s.sampleClocks us ms).bend = s.bend := rfl
@[simp] theorem State.sampleClocks_periodSp (s : State) (us ms : Word) : (s.sampleClocks us ms).periodSp = s.periodSp := rfl
@[simp] theorem State.sampleClocks_widthSp (s : State) (us ms : Word) : (s.sampleClocks us ms).widthSp = s.widthSp := rfl
@[simp] theorem State.sampleClocks_accNext (s : State) (us ms : Word) : (s.sampleClocks us ms).accNext = s.accNext := rfl
@[simp] theorem State.sampleClocks_accLast (s : State) (us ms : Word) : (s.sampleClocks us ms).accLast = s.accLast := rfl
@[simp] theorem State.sampleClocks_accArmed (s : State) (us ms : Word) : (s.sampleClocks us ms).accArmed = s.accArmed := rfl
@[simp] theorem State.sampleClocks_prngX (s : State) (us ms : Word) : (s.sampleClocks us ms).prngX = s.prngX := rfl
@[simp] theorem State.sampleClocks_prngCnt (s : State) (us ms : Word) : (s.sampleClocks us ms).prngCnt = s.prngCnt := rfl
@[simp] theorem State.sampleClocks_seeded (s : State) (us ms : Word) : (s.sampleClocks us ms).seeded = s.seeded := rfl
@[simp] theorem State.sampleClocks_gate (s : State) (us ms : Word) : (s.sampleClocks us ms).gate = s.gate := rfl
@[simp] theorem State.sampleClocks_result (s : State) (us ms : Word) : (s.sampleClocks us ms).result = s.result := rfl
@[simp] theorem State.sampleClocks_fault (s : State) (us ms : Word) : (s.sampleClocks us ms).fault = s.fault := rfl
@[simp] theorem State.sampleClocks_faultCmd (s : State) (us ms : Word) : (s.sampleClocks us ms).faultCmd = s.faultCmd := rfl
@[simp] theorem State.sampleClocks_usClk (s : State) (us ms : Word) : (s.sampleClocks us ms).usClk = us := rfl
@[simp] theorem State.sampleClocks_msClk (s : State) (us ms : Word) : (s.sampleClocks us ms).msClk = ms := rfl
@[simp] theorem State.sampleClocks_control (s : State) (us ms : Word) : (s.sampleClocks us ms).control = s.control := rfl
@[simp] theorem State.sampleClocks_timing (s : State) (us ms : Word) : (s.sampleClocks us ms).timing = s.timing := rfl
@[simp] theorem State.sampleClocks_schedule (s : State) (us ms : Word) : (s.sampleClocks us ms).schedule = s.schedule := rfl
@[simp] theorem State.sampleClocks_readData (s : State) (us ms : Word) : (s.sampleClocks us ms).readData = s.readData := rfl
@[simp] theorem State.sampleClocks_cmdReads (s : State) (us ms : Word) : (s.sampleClocks us ms).cmdReads = s.cmdReads := rfl

/-! ### `State.returnRead` -/

@[simp] theorem State.returnRead_cfg (s : State) (w : Word) : (s.returnRead w).cfg = s.cfg := rfl
@[simp] theorem State.returnRead_voices (s : State) (w : Word) : (s.returnRead w).voices = s.voices := rfl
@[simp] theorem State.returnRead_mode (s : State) (w : Word) : (s.returnRead w).mode = s.mode := rfl
@[simp] theorem State.returnRead_bend (s : State) (w : Word) : (s.returnRead w).bend = s.bend := rfl
@[simp] theorem State.returnRead_periodSp (s : State) (w : Word) : (s.returnRead w).periodSp = s.periodSp := rfl
@[simp] theorem State.returnRead_widthSp (s : State) (w : Word) : (s.returnRead w).widthSp = s.widthSp := rfl
@[simp] theorem State.returnRead_accNext (s : State) (w : Word) : (s.returnRead w).accNext = s.accNext := rfl
@[simp] theorem State.returnRead_accLast (s : State) (w : Word) : (s.returnRead w).accLast = s.accLast := rfl
@[simp] theorem State.returnRead_accArmed (s : State) (w : Word) : (s.returnRead w).accArmed = s.accArmed := rfl
@[simp] theorem State.returnRead_prngX (s : State) (w : Word) : (s.returnRead w).prngX = s.prngX := rfl
@[simp] theorem State.returnRead_prngCnt (s : State) (w : Word) : (s.returnRead w).prngCnt = s.prngCnt := rfl
@[simp] theorem State.returnRead_seeded (s : State) (w : Word) : (s.returnRead w).seeded = s.seeded := rfl
@[simp] theorem State.returnRead_gate (s : State) (w : Word) : (s.returnRead w).gate = s.gate := rfl
@[simp] theorem State.returnRead_result (s : State) (w : Word) : (s.returnRead w).result = s.result := rfl
@[simp] theorem State.returnRead_fault (s : State) (w : Word) : (s.returnRead w).fault = s.fault := rfl
@[simp] theorem State.returnRead_faultCmd (s : State) (w : Word) : (s.returnRead w).faultCmd = s.faultCmd := rfl
@[simp] theorem State.returnRead_usClk (s : State) (w : Word) : (s.returnRead w).usClk = s.usClk := rfl
@[simp] theorem State.returnRead_msClk (s : State) (w : Word) : (s.returnRead w).msClk = s.msClk := rfl
@[simp] theorem State.returnRead_control (s : State) (w : Word) : (s.returnRead w).control = s.control := rfl
@[simp] theorem State.returnRead_timing (s : State) (w : Word) : (s.returnRead w).timing = s.timing := rfl
@[simp] theorem State.returnRead_schedule (s : State) (w : Word) : (s.returnRead w).schedule = s.schedule := rfl
@[simp] theorem State.returnRead_readData (s : State) (w : Word) : (s.returnRead w).readData = w := rfl
@[simp] theorem State.returnRead_cmdReads (s : State) (w : Word) : (s.returnRead w).cmdReads = s.cmdReads := rfl

/-! ### `State.countCmdRead` -/

@[simp] theorem State.countCmdRead_cfg (s : State) : (s.countCmdRead).cfg = s.cfg := rfl
@[simp] theorem State.countCmdRead_voices (s : State) : (s.countCmdRead).voices = s.voices := rfl
@[simp] theorem State.countCmdRead_mode (s : State) : (s.countCmdRead).mode = s.mode := rfl
@[simp] theorem State.countCmdRead_bend (s : State) : (s.countCmdRead).bend = s.bend := rfl
@[simp] theorem State.countCmdRead_periodSp (s : State) : (s.countCmdRead).periodSp = s.periodSp := rfl
@[simp] theorem State.countCmdRead_widthSp (s : State) : (s.countCmdRead).widthSp = s.widthSp := rfl
@[simp] theorem State.countCmdRead_accNext (s : State) : (s.countCmdRead).accNext = s.accNext := rfl
@[simp] theorem State.countCmdRead_accLast (s : State) : (s.countCmdRead).accLast = s.accLast := rfl
@[simp] theorem State.countCmdRead_accArmed (s : State) : (s.countCmdRead).accArmed = s.accArmed := rfl
@[simp] theorem State.countCmdRead_prngX (s : State) : (s.countCmdRead).prngX = s.prngX := rfl
@[simp] theorem State.countCmdRead_prngCnt (s : State) : (s.countCmdRead).prngCnt = s.prngCnt := rfl
@[simp] theorem State.countCmdRead_seeded (s : State) : (s.countCmdRead).seeded = s.seeded := rfl
@[simp] theorem State.countCmdRead_gate (s : State) : (s.countCmdRead).gate = s.gate := rfl
@[simp] theorem State.countCmdRead_result (s : State) : (s.countCmdRead).result = s.result := rfl
@[simp] theorem State.countCmdRead_fault (s : State) : (s.countCmdRead).fault = s.fault := rfl
@[simp] theorem State.countCmdRead_faultCmd (s : State) : (s.countCmdRead).faultCmd = s.faultCmd := rfl
@[simp] theorem State.countCmdRead_usClk (s : State) : (s.countCmdRead).usClk = s.usClk := rfl
@[simp] theorem State.countCmdRead_msClk (s : State) : (s.countCmdRead).msClk = s.msClk := rfl
@[simp] theorem State.countCmdRead_control (s : State) : (s.countCmdRead).control = s.control := rfl
@[simp] theorem State.countCmdRead_timing (s : State) : (s.countCmdRead).timing = s.timing := rfl
@[simp] theorem State.countCmdRead_schedule (s : State) : (s.countCmdRead).schedule = s.schedule := rfl
@[simp] theorem State.countCmdRead_readData (s : State) : (s.countCmdRead).readData = s.readData := rfl
@[simp] theorem State.countCmdRead_cmdReads (s : State) : (s.countCmdRead).cmdReads = s.cmdReads + 1 := rfl

/-! ### `State.applyReset` -/

@[simp] theorem State.applyReset_cfg (s : State) : (s.applyReset).cfg = s.cfg := rfl
@[simp] theorem State.applyReset_voices (s : State) : (s.applyReset).voices = List.replicate s.cfg.slots (emptySlot s.cfg) := rfl
@[simp] theorem State.applyReset_mode (s : State) : (s.applyReset).mode = .midiUsb := rfl
@[simp] theorem State.applyReset_bend (s : State) : (s.applyReset).bend = false := rfl
@[simp] theorem State.applyReset_periodSp (s : State) : (s.applyReset).periodSp = 0 := rfl
@[simp] theorem State.applyReset_widthSp (s : State) : (s.applyReset).widthSp = 0 := rfl
@[simp] theorem State.applyReset_accNext (s : State) : (s.applyReset).accNext = 0 := rfl
@[simp] theorem State.applyReset_accLast (s : State) : (s.applyReset).accLast = 0 := rfl
@[simp] theorem State.applyReset_accArmed (s : State) : (s.applyReset).accArmed = false := rfl
@[simp] theorem State.applyReset_prngX (s : State) : (s.applyReset).prngX = 0 := rfl
@[simp] theorem State.applyReset_prngCnt (s : State) : (s.applyReset).prngCnt = 0 := rfl
@[simp] theorem State.applyReset_seeded (s : State) : (s.applyReset).seeded = false := rfl
@[simp] theorem State.applyReset_gate (s : State) : (s.applyReset).gate = false := rfl
@[simp] theorem State.applyReset_result (s : State) : (s.applyReset).result = 0 := rfl
@[simp] theorem State.applyReset_fault (s : State) : (s.applyReset).fault = 0 := rfl
@[simp] theorem State.applyReset_faultCmd (s : State) : (s.applyReset).faultCmd = 0 := rfl
@[simp] theorem State.applyReset_usClk (s : State) : (s.applyReset).usClk = s.usClk := rfl
@[simp] theorem State.applyReset_msClk (s : State) : (s.applyReset).msClk = s.msClk := rfl
@[simp] theorem State.applyReset_control (s : State) : (s.applyReset).control = s.control := rfl
@[simp] theorem State.applyReset_timing (s : State) : (s.applyReset).timing = s.timing := rfl
@[simp] theorem State.applyReset_schedule (s : State) : (s.applyReset).schedule = s.schedule := rfl
@[simp] theorem State.applyReset_readData (s : State) : (s.applyReset).readData = s.readData := rfl
@[simp] theorem State.applyReset_cmdReads (s : State) : (s.applyReset).cmdReads = s.cmdReads := rfl

/-! ### `State.resetWith` -/

@[simp] theorem State.resetWith_cfg (P : Params) : (State.resetWith P).cfg = P := rfl
@[simp] theorem State.resetWith_voices (P : Params) : (State.resetWith P).voices = List.replicate P.slots (emptySlot P) := rfl
@[simp] theorem State.resetWith_mode (P : Params) : (State.resetWith P).mode = .midiUsb := rfl
@[simp] theorem State.resetWith_bend (P : Params) : (State.resetWith P).bend = false := rfl
@[simp] theorem State.resetWith_periodSp (P : Params) : (State.resetWith P).periodSp = 0 := rfl
@[simp] theorem State.resetWith_widthSp (P : Params) : (State.resetWith P).widthSp = 0 := rfl
@[simp] theorem State.resetWith_accNext (P : Params) : (State.resetWith P).accNext = 0 := rfl
@[simp] theorem State.resetWith_accLast (P : Params) : (State.resetWith P).accLast = 0 := rfl
@[simp] theorem State.resetWith_accArmed (P : Params) : (State.resetWith P).accArmed = false := rfl
@[simp] theorem State.resetWith_prngX (P : Params) : (State.resetWith P).prngX = 0 := rfl
@[simp] theorem State.resetWith_prngCnt (P : Params) : (State.resetWith P).prngCnt = 0 := rfl
@[simp] theorem State.resetWith_seeded (P : Params) : (State.resetWith P).seeded = false := rfl
@[simp] theorem State.resetWith_gate (P : Params) : (State.resetWith P).gate = false := rfl
@[simp] theorem State.resetWith_result (P : Params) : (State.resetWith P).result = 0 := rfl
@[simp] theorem State.resetWith_fault (P : Params) : (State.resetWith P).fault = 0 := rfl
@[simp] theorem State.resetWith_faultCmd (P : Params) : (State.resetWith P).faultCmd = 0 := rfl
@[simp] theorem State.resetWith_usClk (P : Params) : (State.resetWith P).usClk = 0 := rfl
@[simp] theorem State.resetWith_msClk (P : Params) : (State.resetWith P).msClk = 0 := rfl
@[simp] theorem State.resetWith_control (P : Params) : (State.resetWith P).control = .empty := rfl
@[simp] theorem State.resetWith_timing (P : Params) : (State.resetWith P).timing = .empty := rfl
@[simp] theorem State.resetWith_schedule (P : Params) : (State.resetWith P).schedule = [] := rfl
@[simp] theorem State.resetWith_readData (P : Params) : (State.resetWith P).readData = 0 := rfl
@[simp] theorem State.resetWith_cmdReads (P : Params) : (State.resetWith P).cmdReads = 0 := rfl

end Sys2Proof.Machine
end

