-- ==== Sys2Proof/Laws/Ops.lean ====
section
/-! SUPPORT. What each shared operation can do, said once: recording a fault, completing a command, a draw,
slots. -/

namespace Sys2Proof.Machine

open Sys2Proof

/-! ### Recording a fault -/

@[simp] theorem State.raise_cfg (s : State) (c : Cause) (w : Word) : (s.raise c w).cfg = s.cfg := by
  unfold State.raise; split <;> rfl
@[simp] theorem State.raise_voices (s : State) (c : Cause) (w : Word) : (s.raise c w).voices = s.voices := by
  unfold State.raise; split <;> rfl
@[simp] theorem State.raise_mode (s : State) (c : Cause) (w : Word) : (s.raise c w).mode = s.mode := by
  unfold State.raise; split <;> rfl
@[simp] theorem State.raise_bend (s : State) (c : Cause) (w : Word) : (s.raise c w).bend = s.bend := by
  unfold State.raise; split <;> rfl
@[simp] theorem State.raise_periodSp (s : State) (c : Cause) (w : Word) : (s.raise c w).periodSp = s.periodSp := by
  unfold State.raise; split <;> rfl
@[simp] theorem State.raise_widthSp (s : State) (c : Cause) (w : Word) : (s.raise c w).widthSp = s.widthSp := by
  unfold State.raise; split <;> rfl
@[simp] theorem State.raise_accNext (s : State) (c : Cause) (w : Word) : (s.raise c w).accNext = s.accNext := by
  unfold State.raise; split <;> rfl
@[simp] theorem State.raise_accLast (s : State) (c : Cause) (w : Word) : (s.raise c w).accLast = s.accLast := by
  unfold State.raise; split <;> rfl
@[simp] theorem State.raise_accArmed (s : State) (c : Cause) (w : Word) : (s.raise c w).accArmed = s.accArmed := by
  unfold State.raise; split <;> rfl
@[simp] theorem State.raise_prngX (s : State) (c : Cause) (w : Word) : (s.raise c w).prngX = s.prngX := by
  unfold State.raise; split <;> rfl
@[simp] theorem State.raise_prngCnt (s : State) (c : Cause) (w : Word) : (s.raise c w).prngCnt = s.prngCnt := by
  unfold State.raise; split <;> rfl
@[simp] theorem State.raise_seeded (s : State) (c : Cause) (w : Word) : (s.raise c w).seeded = s.seeded := by
  unfold State.raise; split <;> rfl
@[simp] theorem State.raise_gate (s : State) (c : Cause) (w : Word) : (s.raise c w).gate = s.gate := by
  unfold State.raise; split <;> rfl
@[simp] theorem State.raise_result (s : State) (c : Cause) (w : Word) : (s.raise c w).result = s.result := by
  unfold State.raise; split <;> rfl
@[simp] theorem State.raise_usClk (s : State) (c : Cause) (w : Word) : (s.raise c w).usClk = s.usClk := by
  unfold State.raise; split <;> rfl
@[simp] theorem State.raise_msClk (s : State) (c : Cause) (w : Word) : (s.raise c w).msClk = s.msClk := by
  unfold State.raise; split <;> rfl
@[simp] theorem State.raise_control (s : State) (c : Cause) (w : Word) : (s.raise c w).control = s.control := by
  unfold State.raise; split <;> rfl
@[simp] theorem State.raise_timing (s : State) (c : Cause) (w : Word) : (s.raise c w).timing = s.timing := by
  unfold State.raise; split <;> rfl
@[simp] theorem State.raise_schedule (s : State) (c : Cause) (w : Word) : (s.raise c w).schedule = s.schedule := by
  unfold State.raise; split <;> rfl
@[simp] theorem State.raise_readData (s : State) (c : Cause) (w : Word) : (s.raise c w).readData = s.readData := by
  unfold State.raise; split <;> rfl
@[simp] theorem State.raise_cmdReads (s : State) (c : Cause) (w : Word) : (s.raise c w).cmdReads = s.cmdReads := by
  unfold State.raise; split <;> rfl

/-- Everything `raise` can do. -/
theorem State.raise_cases (s : State) (c : Cause) (w : Word) :
    (causeField s.fault = 0 ∧ s.raise c w = s.setFault (withCause s.fault c) w) ∨
    (causeField s.fault ≠ 0 ∧ s.raise c w = s.setFault (withMulti s.fault) s.faultCmd) := by
  unfold State.raise
  split
  · exact .inl ⟨‹_›, rfl⟩
  · exact .inr ⟨‹_›, rfl⟩

/-- The recorded cause is the cause of the first fault. -/
theorem causeField_withCause (f : Word) (c : Cause) : causeField (withCause f c) = c.code := by
  unfold causeField withCause
  ext i hi
  simp only [BitVec.getElem_extractLsb', Nat.zero_add]
  rw [BitVec.getLsbD_append]
  simp [hi, BitVec.getLsbD_eq_getElem]

/-- Setting `MULTI` keeps the cause. -/
theorem causeField_withMulti (f : Word) : causeField (withMulti f) = causeField f := by
  unfold causeField withMulti
  ext i hi
  have h : (256#32).getLsbD i = false := by
    have : i = 0 ∨ i = 1 ∨ i = 2 ∨ i = 3 := by omega
    rcases this with h | h | h | h <;> subst h <;> rfl
  simp [BitVec.getElem_extractLsb', h]

theorem Cause.code_ne_zero (c : Cause) : c.code ≠ 0 := by cases c <;> decide

theorem State.raise_causeField (s : State) (c : Cause) (w : Word) :
    causeField (s.raise c w).fault = if causeField s.fault = 0 then c.code else causeField s.fault := by
  unfold State.raise
  split
  · simp [causeField_withCause]
  · simp [causeField_withMulti]

/-! ### Completing a command -/

@[simp] theorem State.complete_ok (s t : State) (w : Word) : s.complete w (.ok t) = t := rfl

@[simp] theorem State.complete_error (s : State) (c : Cause) (w : Word) :
    s.complete w (.error c) = s.raise c w := rfl

/-- Everything completing a command can do: its effect, or the record of one fault. -/
theorem State.complete_cases (s : State) (w : Word) (r : Except Cause State) :
    (∃ t, r = .ok t ∧ s.complete w r = t) ∨ (∃ c, r = .error c ∧ s.complete w r = s.raise c w) := by
  cases r with
  | ok t => exact .inl ⟨t, rfl, rfl⟩
  | error c => exact .inr ⟨c, rfl, rfl⟩

/-! ### The entropy source -/

/-- The warm-up loop is iteration of the permutation. -/
theorem permuteTimes_eq_iterate (n : Nat) (x : Word) : permuteTimes n x = Nat.iterate permute n x := by
  induction n generalizing x with
  | zero => rfl
  | succ n ih => exact ih (permute x)

/-- Everything a draw can do: it needs a seeded generator, and changes the entropy word and counter only. -/
theorem State.draw_cases (s : State) :
    (s.seeded = false ∧ s.draw = .error .unseeded) ∨
    (s.seeded = true ∧ s.cfg.prngVariant = .counter ∧ s.draw = .ok s.drawCounter) ∨
    (s.seeded = true ∧ s.cfg.prngVariant = .plain ∧ s.draw = .ok s.drawPlain) := by
  unfold State.draw
  cases hs : s.seeded <;> cases hv : s.cfg.prngVariant <;> simp

theorem State.draw_ok {s t : State} {b : Byte} (h : s.draw = .ok (b, t)) :
    s.seeded = true ∧ ∃ x c, t = s.setPrng x c ∧ (s.cfg.prngVariant = .plain → c = s.prngCnt) := by
  rcases s.draw_cases with ⟨_, hd⟩ | ⟨hs, hv, hd⟩ | ⟨hs, hv, hd⟩
  · rw [hd] at h; cases h
  · rw [hd] at h; cases h
    exact ⟨hs, _, _, rfl, by simp [hv]⟩
  · rw [hd] at h; cases h
    exact ⟨hs, _, _, rfl, fun _ => rfl⟩

theorem State.draw_error {s : State} {c : Cause} (h : s.draw = .error c) : s.seeded = false ∧ c = .unseeded := by
  rcases s.draw_cases with ⟨hs, hd⟩ | ⟨_, _, hd⟩ | ⟨_, _, hd⟩
  · rw [hd] at h; cases h; exact ⟨hs, rfl⟩
  · rw [hd] at h; cases h
  · rw [hd] at h; cases h

/-! ### Slots -/

/-- The allocator's test of a slot (R86). -/
theorem Slot.isEmpty_iff (v : Slot) : v.isEmpty = true ↔ v.pitch = 255 := by unfold Slot.isEmpty emptyPitch; simp

theorem Slot.isEmpty_eq_false_iff (v : Slot) : v.isEmpty = false ↔ v.pitch ≠ 255 := by
  rw [← Bool.not_eq_true, Slot.isEmpty_iff]

/-- The timing path's test of a slot (R19). -/
theorem Slot.sounds_iff (v : Slot) : v.sounds = true ↔ v.velocity ≠ 0 := by unfold Slot.sounds; simp

theorem State.slot_of_getElem? {s : State} {i : Nat} {v : Slot} (h : s.voices[i]? = some v) : s.slot i = v := by
  simp [State.slot, List.getD, h]

theorem State.slot_setSlot_self (s : State) (i : Nat) (v : Slot) (h : i < s.voices.length) :
    (s.setSlot i v).slot i = v := by
  simp [State.slot, List.getD, h]

theorem State.slot_setSlot_other (s : State) (i j : Nat) (v : Slot) (h : i ≠ j) :
    (s.setSlot i v).slot j = s.slot j := by
  simp [State.slot, List.getD, h]

/-- Everything `VFIND`'s scan can answer. -/
theorem State.firstEmpty_cases (s : State) :
    (∃ i, s.firstEmpty = some i ∧ i < s.cfg.slots ∧ (s.slot i).isEmpty = true ∧
      ∀ j, j < i → (s.slot j).isEmpty = false) ∨
    (s.firstEmpty = none ∧ ∀ i, i < s.cfg.slots → (s.slot i).isEmpty = false) := by
  unfold State.firstEmpty
  cases h : (List.range s.cfg.slots).find? fun i => (s.slot i).isEmpty with
  | none =>
    refine .inr ⟨rfl, fun i hi => ?_⟩
    have := List.find?_eq_none.mp h i (List.mem_range.mpr hi)
    simpa using this
  | some i =>
    obtain ⟨hp, as, bs, hl, hb⟩ := List.find?_eq_some_iff_append.mp h
    have hi : i < s.cfg.slots := List.mem_range.mp (List.mem_of_find?_eq_some h)
    refine .inl ⟨i, rfl, hi, hp, fun j hj => ?_⟩
    have hlen : as.length = i := by
      have hg : (List.range s.cfg.slots)[as.length]? = some i := by rw [hl]; simp
      rw [List.getElem?_range] at hg
      · simpa using hg
      · have := congrArg List.length hl
        simp at this; omega
    have hj' : (List.range s.cfg.slots)[j]? = some j := List.getElem?_range (by omega)
    rw [hl, List.getElem?_append_left (by omega)] at hj'
    have := hb j (List.mem_of_getElem? hj')
    simpa using this

end Sys2Proof.Machine
end

