-- ==== Sys2Proof/Laws/Policy.lean ====
section
/-! SUPPORT. What the parts of a `TICK` can do, each said once. -/

namespace Sys2Proof.Machine

open Sys2Proof

/-- The clamped period lies between `P_MIN` and `P_MAX`. -/
theorem clampPeriod_mem (P : Params) (h : P.pMin ≤ P.pMax) (v : Int) :
    (P.pMin : Int) ≤ clampPeriod P v ∧ clampPeriod P v ≤ (P.pMax : Int) :=
  clamp_mem v _ _ (by exact_mod_cast h)

/-- Everything `EffPeriod` can answer. -/
theorem State.effPeriod_cases (s : State) :
    (s.jitterOn = false ∧ s.effPeriod = .ok (clampPeriod s.cfg s.periodSp.toNat, s)) ∨
    (s.jitterOn = true ∧ s.seeded = false ∧ s.effPeriod = .error .unseeded) ∨
    (s.jitterOn = true ∧ s.seeded = true ∧ ∃ b x c, s.draw = .ok (b, s.setPrng x c) ∧
      (s.cfg.prngVariant = .plain → c = s.prngCnt) ∧
      s.effPeriod = .ok (clampPeriod s.cfg (jitterValue s.cfg s.periodSp b), s.setPrng x c)) := by
  unfold State.effPeriod
  cases hj : s.jitterOn with
  | false => simp
  | true =>
    cases hd : s.draw with
    | error c => obtain ⟨hs, rfl⟩ := State.draw_error hd; simp [hs]
    | ok bt =>
      obtain ⟨b, t⟩ := bt
      obtain ⟨hs, x, c, rfl, hc⟩ := State.draw_ok hd
      exact .inr (.inr ⟨rfl, hs, b, x, c, rfl, hc, by simp⟩)

/-- Everything a pulse start can do. -/
theorem State.startPulse_ok {s u : State} {t : Word} (h : s.startPulse t = .ok u) :
    ∃ period w v x c, s.effPeriod = .ok (period, v) ∧ period = clampPeriod s.cfg w ∧ v = s.setPrng x c ∧
      (s.cfg.prngVariant = .plain → c = s.prngCnt) ∧ (s.seeded = false → x = s.prngX ∧ c = s.prngCnt) ∧
      u = v.schedulePulse (s.pulseBase t period) (s.pulseBase t period + BitVec.ofInt 32 period) := by
  unfold State.startPulse at h
  rcases s.effPeriod_cases with ⟨_, he⟩ | ⟨_, _, he⟩ | ⟨_, hs, b, x, c, _, hc, he⟩
  · rw [he] at h; cases h
    exact ⟨_, _, s, s.prngX, s.prngCnt, he, rfl, rfl, fun _ => rfl, fun _ => ⟨rfl, rfl⟩, rfl⟩
  · rw [he] at h; cases h
  · rw [he] at h; cases h
    exact ⟨_, _, _, x, c, he, rfl, rfl, hc, by simp [hs], rfl⟩

/-- A pulse start fails only for want of a seed. -/
theorem State.startPulse_error {s : State} {t : Word} {c : Cause} (h : s.startPulse t = .error c) :
    s.jitterOn = true ∧ s.seeded = false ∧ c = .unseeded := by
  unfold State.startPulse at h
  rcases s.effPeriod_cases with ⟨_, he⟩ | ⟨hj, hs, he⟩ | ⟨_, _, _, _, _, _, _, he⟩
  · rw [he] at h; cases h
  · rw [he] at h; cases h; exact ⟨hj, hs, rfl⟩
  · rw [he] at h; cases h

/-- Everything a `TICK` can do. -/
theorem tickEffect_cases (s : State) :
    (isFrequency s.mode = false ∧ tickEffect s = .ok (s.showTick false (s.midiGate s.usClk))) ∨
    (isFrequency s.mode = true ∧ s.pulseDue s.usClk = false ∧
      tickEffect s = .ok (s.showTick false (s.freqGate s.usClk))) ∨
    (isFrequency s.mode = true ∧ s.pulseDue s.usClk = true ∧ ∃ c, s.startPulse s.usClk = .error c ∧
      tickEffect s = .error c) ∨
    (isFrequency s.mode = true ∧ s.pulseDue s.usClk = true ∧ ∃ u, s.startPulse s.usClk = .ok u ∧
      tickEffect s = .ok (u.showTick true (u.freqGate s.usClk))) := by
  unfold tickEffect State.freqStep
  cases hm : isFrequency s.mode with
  | false => simp
  | true =>
    cases hd : s.pulseDue s.usClk with
    | false => simp
    | true =>
      cases hp : s.startPulse s.usClk with
      | error c => simp
      | ok u => simp

/-- A slot fires where it sounds and is in the first `width` microseconds of its period (R104). -/
theorem Slot.fires_iff (v : Slot) (t width : Word) :
    v.fires t width = true ↔ v.velocity ≠ 0 ∧ v.offsetAt t < (width.toNat : Int) := by
  unfold Slot.fires
  rw [Bool.and_eq_true, Slot.sounds_iff, decide_eq_true_eq]

/-- The MIDI gate is on exactly while some slot fires. -/
theorem State.midiGate_iff (s : State) (t : Word) :
    s.midiGate t = true ↔ ∃ i, i < s.cfg.slots ∧ (s.slot i).fires t s.widthSp = true := by
  simp [State.midiGate]

theorem isFrequency_iff (m : Mode) : isFrequency m = true ↔ m = .fixed ∨ m = .pink := by cases m <;> simp [isFrequency]

/-- `JitterOn()` (R102). -/
theorem State.jitterOn_iff (s : State) : s.jitterOn = true ↔
    (s.mode = .fixed ∨ s.mode = .pink) ∧ (s.bend = true ∨ (s.mode = .pink ∧ s.cfg.pinkForcesJitter = true)) := by
  unfold State.jitterOn
  rw [Bool.and_eq_true, isFrequency_iff]
  simp

theorem State.jitterOn_frequency {s : State} (h : s.jitterOn = true) : isFrequency s.mode = true := by
  unfold State.jitterOn at h
  simp at h
  exact h.1

/-- `pulseDue` is `Due` at the sampled clock. -/
theorem State.pulseDue_iff (s : State) : s.pulseDue s.usClk = true ↔
    s.accArmed = false ∨ 0 ≤ (s.usClk - s.accNext).toInt := by
  simp [State.pulseDue, sdiff]

end Sys2Proof.Machine
end

