-- ==== Sys2Proof/Laws/Exec.lean ====
section
/-! SUPPORT. What each command's meaning can do, said once per command. -/

namespace Sys2Proof.Machine

open Sys2Proof

/-- The effect that a command completes. -/
def effectOf : Instr → State → Except Cause State
  | .nop, s => nopEffect s
  | .pinit, s => pinitEffect s
  | .pnext, s => pnextEffect s
  | .vfind, s => vfindEffect s
  | .vasgn idx ch pitch vel, s => vasgnEffect idx ch pitch vel s
  | .vrel idx, s => vrelEffect idx s
  | .vrd idx fsel, s => vrdEffect idx fsel s
  | .smode m, s => smodeEffect m s
  | .sbend b, s => sbendEffect b s
  | .sper us, s => sperEffect us s
  | .swid us, s => swidEffect us s
  | .tick, s => tickEffect s
  | .rdreg rsel, s => rdregEffect rsel s

/-- Every command is atomic: its whole effect, or the record of one fault (R10, R48, R122). -/
theorem exec_eq_complete (i : Instr) (s : State) : exec i s = .next (s.complete (encode i) (effectOf i s)) := by
  cases i <;> rfl

theorem exec_cases {i : Instr} {s t : State} (h : exec i s = .next t) :
    effectOf i s = .ok t ∨ ∃ c, effectOf i s = .error c ∧ t = s.raise c (encode i) := by
  rw [exec_eq_complete] at h
  injection h with h
  rcases s.complete_cases (encode i) (effectOf i s) with ⟨u, hu, hc⟩ | ⟨c, hc, hr⟩
  · exact .inl (by rw [hu, ← h, hc])
  · exact .inr ⟨c, hc, by rw [← h, hr]⟩

theorem State.index_cases (s : State) (idx : Byte) :
    (idx.toNat < s.cfg.slots ∧ s.index idx = .ok idx.toNat) ∨
    (s.cfg.slots ≤ idx.toNat ∧ s.index idx = .error .indexRange) := by
  unfold State.index
  split
  · exact .inl ⟨‹_›, rfl⟩
  · exact .inr ⟨by omega, rfl⟩

theorem pnextEffect_cases (s : State) :
    (s.seeded = false ∧ pnextEffect s = .error .unseeded) ∨
    (s.seeded = true ∧ ∃ b x c, s.draw = .ok (b, s.setPrng x c) ∧ (s.cfg.prngVariant = .plain → c = s.prngCnt) ∧
      pnextEffect s = .ok ((s.setPrng x c).setResult (zext32 b))) := by
  unfold pnextEffect
  cases hd : s.draw with
  | error c => obtain ⟨hs, rfl⟩ := State.draw_error hd; exact .inl ⟨hs, rfl⟩
  | ok bt =>
    obtain ⟨b, t⟩ := bt
    obtain ⟨hs, x, c, rfl, hc⟩ := State.draw_ok hd
    exact .inr ⟨hs, b, x, c, rfl, hc, rfl⟩

theorem pitchOperand_cases (pitch : Byte) :
    (pitch.toNat ≤ 127 ∧ pitchOperand pitch = .ok pitch.toNat) ∨
    (127 < pitch.toNat ∧ pitchOperand pitch = .error .pitchRange) := by
  unfold pitchOperand
  split
  · exact .inl ⟨‹_›, rfl⟩
  · exact .inr ⟨by omega, rfl⟩

theorem velocityOperand_cases (vel : Byte) :
    (1 ≤ vel.toNat ∧ vel.toNat ≤ 127 ∧ velocityOperand vel = .ok vel) ∨
    ((vel.toNat = 0 ∨ 127 < vel.toNat) ∧ velocityOperand vel = .error .velRange) := by
  unfold velocityOperand
  split
  · next h => exact .inr ⟨.inl (by simp [h]), rfl⟩
  · next h =>
    have : vel.toNat ≠ 0 := fun h0 => h (BitVec.eq_of_toNat_eq (by simpa using h0))
    split
    · exact .inl ⟨by omega, ‹_›, rfl⟩
    · exact .inr ⟨.inr (by omega), rfl⟩

/-- Everything `VASGN` can do, its checks in their priority (R90, R120). -/
theorem vasgnEffect_cases (idx : Byte) (ch : BitVec 4) (pitch vel : Byte) (s : State) :
    (s.cfg.slots ≤ idx.toNat ∧ vasgnEffect idx ch pitch vel s = .error .indexRange) ∨
    (idx.toNat < s.cfg.slots ∧ 127 < pitch.toNat ∧ vasgnEffect idx ch pitch vel s = .error .pitchRange) ∨
    (idx.toNat < s.cfg.slots ∧ pitch.toNat ≤ 127 ∧ (vel.toNat = 0 ∨ 127 < vel.toNat) ∧
      vasgnEffect idx ch pitch vel s = .error .velRange) ∨
    (idx.toNat < s.cfg.slots ∧ pitch.toNat ≤ 127 ∧ 1 ≤ vel.toNat ∧ vel.toNat ≤ 127 ∧
      vasgnEffect idx ch pitch vel s = .ok (s.setSlot idx.toNat (assignedSlot s ch pitch.toNat vel))) := by
  unfold vasgnEffect
  rcases s.index_cases idx with ⟨hi, he⟩ | ⟨hi, he⟩
  · rcases pitchOperand_cases pitch with ⟨hp, hq⟩ | ⟨hp, hq⟩
    · rcases velocityOperand_cases vel with ⟨hv, hw, hx⟩ | ⟨hv, hx⟩ <;> simp [*]
    · simp [*]
  · simp [*]

theorem vrelEffect_cases (idx : Byte) (s : State) :
    (s.cfg.slots ≤ idx.toNat ∧ vrelEffect idx s = .error .indexRange) ∨
    (idx.toNat < s.cfg.slots ∧ vrelEffect idx s = .ok (s.setSlot idx.toNat (emptySlot s.cfg))) := by
  unfold vrelEffect
  rcases s.index_cases idx with ⟨hi, he⟩ | ⟨hi, he⟩ <;> simp [*]

/-- A `VRD` writes `RESULT` or faults. -/
theorem vrdEffect_cases (idx : Byte) (fsel : BitVec 3) (s : State) :
    (∃ c, c ≠ .unseeded ∧ vrdEffect idx fsel s = .error c) ∨ ∃ w, vrdEffect idx fsel s = .ok (s.setResult w) := by
  unfold vrdEffect
  rcases s.index_cases idx with ⟨hi, he⟩ | ⟨hi, he⟩
  · cases hf : fieldOf fsel with
    | ok f => exact .inr ⟨_, by simp [he]; rfl⟩
    | error c =>
      refine .inl ⟨c, ?_, by simp [he]⟩
      unfold fieldOf at hf
      split at hf <;> cases hf
      decide
  · exact .inl ⟨.indexRange, by decide, by rw [he]⟩

/-- An `RDREG` writes `RESULT` or faults; `UNSEEDED` only for want of a seed. -/
theorem rdregEffect_cases (rsel : BitVec 4) (s : State) :
    (∃ c, (c = .unseeded → s.seeded = false) ∧ rdregEffect rsel s = .error c) ∨
    ∃ w, rdregEffect rsel s = .ok (s.setResult w) := by
  unfold rdregEffect
  cases hr : registerOf rsel with
  | error c =>
    refine .inl ⟨c, ?_, rfl⟩
    unfold registerOf at hr
    split at hr <;> cases hr
    intro h; cases h
  | ok r =>
    cases hv : s.register r with
    | ok w => exact .inr ⟨w, by simp [hv]⟩
    | error c =>
      refine .inl ⟨c, ?_, by simp [hv]⟩
      intro _
      unfold State.register at hv
      cases hs : s.seeded with
      | false => rfl
      | true => cases r <;> simp [hs] at hv

end Sys2Proof.Machine
end

