-- ==== Sys2Proof/Laws/PerInstr.lean ====
section
/-! SUPPORT. Facts about every command as syntax, one lemma per constructor of `Instr`. -/

namespace Sys2Proof.Laws.EncodesItsOpcode

open Sys2Proof

/-- The word of a command carries its row's `OP` in bits [31:28], and that `OP` names the row (R58, R68). -/
def Statement (i : Instr) : Prop :=
  opField (encode i) = i.opcode.nibble ∧ Opcode.ofNibble i.opcode.nibble = some i.opcode

/-- The high part of a concatenation. -/
theorem high_of_append (a : BitVec 4) (b : BitVec 28) : opField (a ++ b) = a := by
  unfold opField
  ext i hi
  simp only [BitVec.getElem_extractLsb']
  rw [BitVec.getLsbD_append]
  simp [BitVec.getLsbD_eq_getElem, hi]

theorem nop : Statement .nop := by unfold Statement; decide

theorem pinit : Statement .pinit := by unfold Statement; decide

theorem pnext : Statement .pnext := by unfold Statement; decide

theorem vfind : Statement .vfind := by unfold Statement; decide

theorem tick : Statement .tick := by unfold Statement; decide

theorem sper (us : BitVec 28) : Statement (.sper us) := ⟨high_of_append _ _, rfl⟩

theorem swid (us : BitVec 28) : Statement (.swid us) := ⟨high_of_append _ _, rfl⟩

theorem vasgn (idx : Byte) (ch : BitVec 4) (pitch vel : Byte) : Statement (.vasgn idx ch pitch vel) := by
  refine ⟨?_, rfl⟩
  unfold encode opField
  ext i hi
  simp only [BitVec.getElem_extractLsb', BitVec.getLsbD_append]
  simp [Instr.opcode, show ¬ (28 + i < 8) by omega, show ¬ (28 + i - 8 < 8) by omega,
    show ¬ (28 + i - 8 - 8 < 8) by omega, show ¬ (28 + i - 8 - 8 - 8 < 4) by omega,
    show 28 + i - 8 - 8 - 8 - 4 = i by omega, BitVec.getLsbD_eq_getElem, hi]

theorem vrel (idx : Byte) : Statement (.vrel idx) := by
  refine ⟨?_, rfl⟩
  unfold encode opField
  ext i hi
  simp only [BitVec.getElem_extractLsb', BitVec.getLsbD_append]
  simp [Instr.opcode, show ¬ (28 + i < 8) by omega, show ¬ (28 + i - 8 < 20) by omega,
    show 28 + i - 8 - 20 = i by omega, BitVec.getLsbD_eq_getElem, hi]

theorem vrd (idx : Byte) (fsel : BitVec 3) : Statement (.vrd idx fsel) := by
  refine ⟨?_, rfl⟩
  unfold encode opField
  ext i hi
  simp only [BitVec.getElem_extractLsb', BitVec.getLsbD_append]
  simp [Instr.opcode, show ¬ (28 + i < 8) by omega, show ¬ (28 + i - 8 < 3) by omega,
    show ¬ (28 + i - 8 - 3 < 17) by omega, show 28 + i - 8 - 3 - 17 = i by omega, BitVec.getLsbD_eq_getElem, hi]

theorem smode (m : Mode) : Statement (.smode m) := by cases m <;> (unfold Statement; decide)

theorem sbend (b : Bool) : Statement (.sbend b) := by cases b <;> (unfold Statement; decide)

theorem rdreg (rsel : BitVec 4) : Statement (.rdreg rsel) := by
  refine ⟨?_, rfl⟩
  unfold encode opField
  ext i hi
  simp only [BitVec.getElem_extractLsb', BitVec.getLsbD_append]
  simp [Instr.opcode, show ¬ (28 + i < 4) by omega, show ¬ (28 + i - 4 < 24) by omega,
    show 28 + i - 4 - 24 = i by omega, BitVec.getLsbD_eq_getElem, hi]

end Sys2Proof.Laws.EncodesItsOpcode
end

