-- ==== Sys2Proof/Laws/Port.lean ====
section
/-! SUPPORT. What a step can do at the ports, said once. -/

namespace Sys2Proof.Machine

open Sys2Proof

/-- The VSB's own state and inputs are not touched by taking a turn. -/
theorem State.takeTurn_eq (s : State) : ∃ q c t, s.takeTurn = { s with schedule := q, control := c, timing := t } := by
  unfold State.takeTurn
  split
  · exact ⟨s.schedule, s.control, s.timing, rfl⟩
  · exact ⟨_, _, s.timing, rfl⟩
  · exact ⟨_, s.control, _, rfl⟩
  · exact ⟨_, s.control, s.timing, rfl⟩

/-- Everything a fetch can answer. -/
theorem State.fetch_cases (s : State) :
    (s.portEvent = .idle ∧ s.fetch = .go s.takeTurn) ∨
    (s.portEvent = .reset ∧ s.fetch = .go s.takeTurn.applyReset) ∨
    ∃ a, s.portEvent = .access a ∧
      ((∃ w us ms i, a.request = .command w us ms ∧ decode w = .ok i ∧
          s.fetch = .run i (s.takeTurn.sampleClocks us ms)) ∨
       (∃ w us ms e, a.request = .command w us ms ∧ decode w = .error e ∧
          s.fetch = .go ((s.takeTurn.sampleClocks us ms).raise (causeOf e) w)) ∨
       (a.request = .readCmd ∧
          s.fetch = .go ((s.takeTurn.returnRead (Config.cmdRead s.cmdReads)).countCmdRead)) ∨
       (a.request = .readResult ∧ s.fetch = .go (s.takeTurn.returnRead s.result)) ∨
       ∃ f, a.request = .noStep f ∧ s.fetch = .stop f) := by
  unfold State.fetch
  cases he : s.portEvent with
  | idle => exact .inl ⟨rfl, rfl⟩
  | reset => exact .inr (.inl ⟨rfl, rfl⟩)
  | access a =>
    refine .inr (.inr ⟨a, rfl, ?_⟩)
    cases hr : a.request with
    | readCmd => exact .inr (.inr (.inl ⟨rfl, by simp [hr]⟩))
    | readResult => exact .inr (.inr (.inr (.inl ⟨rfl, by simp [hr]⟩)))
    | noStep f => exact .inr (.inr (.inr (.inr ⟨f, rfl, by simp [hr]⟩)))
    | command w us ms =>
      cases hd : decode w with
      | ok i => exact .inl ⟨w, us, ms, i, rfl, hd, by simp [hr, State.fetchCommand, hd]⟩
      | error e => exact .inr (.inl ⟨w, us, ms, e, rfl, hd, by simp [hr, State.fetchCommand, hd]⟩)

/-- Everything a step can do: a command's meaning, or one of the four steps without a command, or a stop. -/
theorem step_cases {s t : State} (h : step s = .next t) :
    (∃ w us ms i, decode w = .ok i ∧ exec i (s.takeTurn.sampleClocks us ms) = .next t) ∨
    (∃ w us ms e, decode w = .error e ∧ t = (s.takeTurn.sampleClocks us ms).raise (causeOf e) w) ∨
    (s.portEvent = .idle ∧ t = s.takeTurn) ∨
    (s.portEvent = .reset ∧ t = s.takeTurn.applyReset) ∨
    (t = (s.takeTurn.returnRead (Config.cmdRead s.cmdReads)).countCmdRead) ∨
    (t = s.takeTurn.returnRead s.result) := by
  unfold step at h
  rcases s.fetch_cases with ⟨he, hf⟩ | ⟨he, hf⟩ | ⟨a, he, hc⟩
  · rw [hf] at h; cases h; exact .inr (.inr (.inl ⟨he, rfl⟩))
  · rw [hf] at h; cases h; exact .inr (.inr (.inr (.inl ⟨he, rfl⟩)))
  · rcases hc with ⟨w, us, ms, i, _, hd, hf⟩ | ⟨w, us, ms, e, _, hd, hf⟩ | ⟨_, hf⟩ | ⟨_, hf⟩ | ⟨f, _, hf⟩
    · rw [hf] at h; exact .inl ⟨w, us, ms, i, hd, h⟩
    · rw [hf] at h; cases h; exact .inr (.inl ⟨w, us, ms, e, hd, rfl⟩)
    · rw [hf] at h; cases h; exact .inr (.inr (.inr (.inr (.inl rfl))))
    · rw [hf] at h; cases h; exact .inr (.inr (.inr (.inr (.inr rfl))))
    · rw [hf] at h; cases h

/-- A step that is not a reset comes from no reset event. -/
theorem step_reset {s : State} (h : s.portEvent = .reset) : step s = .next s.takeTurn.applyReset := by
  simp [step, State.fetch, h]

end Sys2Proof.Machine
end

