-- ==== Sys2Proof/Laws/Record.lean ====
section
/-! SUPPORT. The fault record and the commands' effects are independent: but for the two reads of the record,
no effect depends on what it holds, and no effect changes it. -/

namespace Sys2Proof.Machine

open Sys2Proof

/-- A draw does not look at the record. -/
theorem State.draw_setFault (s : State) (f w : Word) :
    (s.setFault f w).draw = s.draw.map fun bt => (bt.1, bt.2.setFault f w) := by
  rcases s.draw_cases with ⟨h, hd⟩ | ⟨h, hv, hd⟩ | ⟨h, hv, hd⟩ <;> rw [hd] <;> unfold State.draw
  · rw [if_neg (by simp [h])]; rfl
  · rw [if_pos (by simpa using h), State.setFault_cfg, hv]; rfl
  · rw [if_pos (by simpa using h), State.setFault_cfg, hv]; rfl

theorem State.jitterOn_setFault (s : State) (f w : Word) : (s.setFault f w).jitterOn = s.jitterOn := rfl

theorem State.effPeriod_setFault (s : State) (f w : Word) :
    (s.setFault f w).effPeriod = s.effPeriod.map fun pt => (pt.1, pt.2.setFault f w) := by
  unfold State.effPeriod
  rw [State.jitterOn_setFault, State.draw_setFault]
  by_cases h : s.jitterOn = true
  · rw [if_pos h, if_pos h]
    cases s.draw <;> rfl
  · rw [if_neg h, if_neg h]; rfl

theorem State.startPulse_setFault (s : State) (t f w : Word) :
    (s.setFault f w).startPulse t = (s.startPulse t).map fun u => u.setFault f w := by
  unfold State.startPulse
  rw [State.effPeriod_setFault]
  cases s.effPeriod <;> rfl

theorem tickEffect_setFault (s : State) (f w : Word) :
    tickEffect (s.setFault f w) = (tickEffect s).map fun u => u.setFault f w := by
  unfold tickEffect State.freqStep
  rw [State.startPulse_setFault, State.setFault_usClk]
  by_cases hm : isFrequency s.mode = true
  · rw [if_pos hm, if_pos (by simpa using hm)]
    by_cases hd : s.pulseDue s.usClk = true
    · rw [if_pos hd, if_pos (by exact hd)]
      cases s.startPulse s.usClk <;> rfl
    · rw [if_neg hd, if_neg (by exact hd)]; rfl
  · rw [if_neg hm, if_neg (by simpa using hm)]; rfl

theorem State.index_setFault (s : State) (idx : Byte) (f w : Word) : (s.setFault f w).index idx = s.index idx := rfl

theorem State.register_setFault (s : State) (r : RegName) (f w : Word) (hf : r ≠ .fault) (hc : r ≠ .faultCmd) :
    (s.setFault f w).register r = s.register r := by
  cases r <;> first | rfl | contradiction

/-- A select other than 0xB and 0xC names no register of the record. -/
theorem registerOf_record {rsel : BitVec 4} {r : RegName} (h : registerOf rsel = .ok r) (hf : rsel ≠ 0xB)
    (hc : rsel ≠ 0xC) : r ≠ .fault ∧ r ≠ .faultCmd := by
  unfold registerOf at h
  split at h <;> cases h <;> simp
  · next hn => exact hf (BitVec.eq_of_toNat_eq hn)
  · next hn => exact hc (BitVec.eq_of_toNat_eq hn)

/-- But for the two reads of the record, a command has the same effect whatever the record holds. -/
theorem effectOf_setFault (i : Instr) (s : State) (f w : Word) (hf : i ≠ .rdreg 0xB) (hc : i ≠ .rdreg 0xC) :
    effectOf i (s.setFault f w) = (effectOf i s).map fun u => u.setFault f w := by
  cases i with
  | nop => rfl
  | pinit => rfl
  | pnext =>
    show pnextEffect _ = (pnextEffect s).map _
    unfold pnextEffect
    rw [State.draw_setFault]
    cases s.draw <;> rfl
  | vfind => rfl
  | vasgn idx ch pitch vel =>
    show vasgnEffect idx ch pitch vel _ = (vasgnEffect idx ch pitch vel s).map _
    unfold vasgnEffect
    rw [State.index_setFault]
    cases s.index idx <;> [rfl; cases pitchOperand pitch <;> [rfl; cases velocityOperand vel <;> rfl]]
  | vrel idx =>
    show vrelEffect idx _ = (vrelEffect idx s).map _
    unfold vrelEffect
    rw [State.index_setFault]
    cases s.index idx <;> rfl
  | vrd idx fsel =>
    show vrdEffect idx fsel _ = (vrdEffect idx fsel s).map _
    unfold vrdEffect
    rw [State.index_setFault]
    cases s.index idx <;> [rfl; cases fieldOf fsel <;> rfl]
  | smode m => rfl
  | sbend b => rfl
  | sper us => rfl
  | swid us => rfl
  | tick => exact tickEffect_setFault s f w
  | rdreg rsel =>
    show rdregEffect rsel _ = (rdregEffect rsel s).map _
    unfold rdregEffect
    cases hr : registerOf rsel with
    | error c => rfl
    | ok r =>
      obtain ⟨h1, h2⟩ := registerOf_record hr (fun h => hf (by rw [h])) (fun h => hc (by rw [h]))
      simp only [State.register_setFault s r f w h1 h2]
      cases s.register r <;> rfl

/-- No command's effect changes the record. -/
theorem effectOf_record {i : Instr} {s t : State} (h : effectOf i s = .ok t) :
    t.fault = s.fault ∧ t.faultCmd = s.faultCmd := by
  by_cases hf : i = .rdreg 0xB
  · subst hf; cases h; exact ⟨rfl, rfl⟩
  by_cases hc : i = .rdreg 0xC
  · subst hc; cases h; exact ⟨rfl, rfl⟩
  have he := effectOf_setFault i s s.fault s.faultCmd hf hc
  rw [show s.setFault s.fault s.faultCmd = s from rfl, h] at he
  injection he with he
  rw [he]
  exact ⟨rfl, rfl⟩

end Sys2Proof.Machine
end

