-- ==== Sys2Proof/Tests/Slice0.lean ====
section
/-! SUPPORT. The model's own tests. Every expected value is written out from spec/95_test_vectors.md (its
vector's name stands in the docstring), from the encoding tables of spec/30_encoding.md, or from the rule
named. The theorems `witness_<Obligation>` show concrete inputs that meet a statement's hypotheses. -/

namespace Sys2Proof.Tests

open Sys2Proof Sys2Proof.Machine

-- One theorem at a time: the tests run together ask for more threads than the memory limit allows.
set_option Elab.async false

/-! ### The test instance of spec/95_test_vectors.md section 0 -/

/-- `PERIOD_TABLE_ET` of spec/93_implementation_defined.md section 3. -/
def periodTableEt : List Word :=
  [122312, 115447, 108968, 102852, 97079, 91631, 86488, 81634]
    ++ [77052, 72727, 68645, 64793, 61156, 57724, 54484, 51426]
    ++ [48540, 45815, 43244, 40817, 38526, 36364, 34323, 32396]
    ++ [30578, 28862, 27242, 25713, 24270, 22908, 21622, 20408]
    ++ [19263, 18182, 17161, 16198, 15289, 14431, 13621, 12856]
    ++ [12135, 11454, 10811, 10204, 9631, 9091, 8581, 8099]
    ++ [7645, 7215, 6810, 6428, 6067, 5727, 5405, 5102]
    ++ [4816, 4545, 4290, 4050, 3822, 3608, 3405, 3214]
    ++ [3034, 2863, 2703, 2551, 2408, 2273, 2145, 2025]
    ++ [1911, 1804, 1703, 1607, 1517, 1432, 1351, 1276]
    ++ [1204, 1136, 1073, 1012, 956, 902, 851, 804]
    ++ [758, 716, 676, 638, 602, 568, 536, 506]
    ++ [478, 451, 426, 402, 379, 358, 338, 319]
    ++ [301, 284, 268, 253, 239, 225, 213, 201]
    ++ [190, 179, 169, 159, 150, 142, 134, 127]
    ++ [119, 113, 106, 100, 95, 89, 84, 80]

def instance95 : Params where
  slots := 4
  periodTable := periodTableEt
  prngVariant := .counter
  prngSel := .post
  warmup := 101
  prngMagic := 3
  jitter := .default 1
  pMin := 1
  pMax := 2 ^ 31 - 1
  pinkForcesJitter := false
  vsbBase := 0x40000000

/-- The test instance with the other generator variant. -/
def plainInstance : Params := { instance95 with prngVariant := .plain, warmup := 100 }

def fromReset : State := State.resetWith instance95

/-- The clock inputs at the given levels. -/
def at_ (us ms : Word) (s : State) : State := { s with usClk := us, msClk := ms }

/-- The state after a command, where it has one. -/
def after (i : Instr) (s : State) : State :=
  match exec i s with
  | .next t => t
  | .fault _ => s
  | .refused _ => s

/-- The state after a step, where it has one. -/
def stepped (s : State) : State :=
  match step s with
  | .next t => t
  | .fault _ => s
  | .refused _ => s

/-- Seeded as by `PINIT` at `MS = 2` (PR-2). -/
def seeded : State := { fromReset with prngX := 0xDD6E6ABC, seeded := true }

/-- Setup F1000. -/
def f1000 : State := { fromReset with mode := .fixed, periodSp := 1000, widthSp := 50 }

/-- Setup PO-8: F1000 and a `TICK` at 5000. -/
def running : State :=
  { f1000 with accLast := 5000, accNext := 6000, accArmed := true, gate := true, result := 3 }

/-- P3 before its first `TICK`. -/
def jittered : State := { seeded with mode := .fixed, periodSp := 1000, widthSp := 50, bend := true, usClk := 5000 }

/-- PO-25: jitter without a seed. -/
def unseededJitter : State := { fromReset with mode := .fixed, periodSp := 1000, bend := true }

/-- The voice of VO-5. -/
def voice5 : Slot := ⟨1, 60, 100, 3822, 2356, 10⟩

/-- Setup VO-5. -/
def oneVoice : State := { fromReset with voices := fromReset.voices.set 0 voice5 }

/-- A table without an empty slot. -/
def fullTable : State := { fromReset with voices := [voice5, voice5, voice5, voice5] }

/-- `0xD0000000` has been rejected (DF-1). -/
def faultedState : State := { fromReset with fault := 1, faultCmd := 0xD0000000 }

/-- The control path is about to make an access. -/
def controlNext (a : HostAccess) (s : State) : State :=
  { s with schedule := [.control, .timing], control := ⟨7, [a]⟩ }

/-- The timing path is about to make an access. -/
def timingNext (a : HostAccess) (s : State) : State :=
  { s with schedule := [.timing, .control], timing := ⟨7, [a, a]⟩ }

/-- A word written to `CMD` at given clock levels. -/
def cmdWrite (w us ms : Word) : HostAccess := ⟨0, .word, .write w us ms⟩

/-! ### WellFormed: an ill-formed term for each check -/

theorem test_valid : instance95.Valid ∧ plainInstance.Valid := by decide +kernel
theorem test_invalid_slots : ¬ Params.Valid { instance95 with slots := 0 } ∧
    ¬ Params.Valid { instance95 with slots := 257 } := by decide +kernel
theorem test_invalid_table_short : ¬ Params.Valid { instance95 with periodTable := [1] } := by decide +kernel
theorem test_invalid_table_zero :
    ¬ Params.Valid { instance95 with periodTable := periodTableEt.set 127 0 } := by decide +kernel
theorem test_invalid_clamp : ¬ Params.Valid { instance95 with pMin := 0 } ∧
    ¬ Params.Valid { instance95 with pMin := 9, pMax := 8 } ∧
    ¬ Params.Valid { instance95 with pMax := 2 ^ 31 } := by decide +kernel
theorem test_illformed_index : Instr.wellFormed instance95 (.vrel 4) = false ∧
    Instr.wellFormed instance95 (.vrd 4 0) = false ∧
    Instr.wellFormed instance95 (.vasgn 4 0 60 1) = false := by decide +kernel
theorem test_illformed_pitch : Instr.wellFormed instance95 (.vasgn 0 0 128 1) = false := by decide +kernel
theorem test_illformed_velocity : Instr.wellFormed instance95 (.vasgn 0 0 60 0) = false ∧
    Instr.wellFormed instance95 (.vasgn 0 0 60 128) = false := by decide +kernel
theorem test_illformed_field : Instr.wellFormed instance95 (.vrd 0 6) = false := by decide +kernel
theorem test_illformed_register : Instr.wellFormed instance95 (.rdreg 14) = false := by decide +kernel
theorem test_wellformed : Instr.wellFormed instance95 (.vasgn 3 15 127 127) = true ∧
    Instr.wellFormed instance95 (.vrd 3 5) = true ∧ Instr.wellFormed instance95 (.rdreg 13) = true := by decide +kernel

/-! ### Decode: every constructor's word, written from R59 to R66 and R72 -/

theorem test_decode_nop : decodeTableWord 32 0x00000000 = some .nop := by decide +kernel
theorem test_decode_pinit : decodeTableWord 32 0x10000000 = some .pinit := by decide +kernel
theorem test_decode_pnext : decodeTableWord 32 0x20000000 = some .pnext := by decide +kernel
theorem test_decode_vfind : decodeTableWord 32 0x30000000 = some .vfind := by decide +kernel
theorem test_decode_vasgn : decodeTableWord 32 0x413C6402 = some (.vasgn 2 1 60 100) := by decide +kernel
theorem test_decode_vrel : decodeTableWord 32 0x500000FF = some (.vrel 255) := by decide +kernel
theorem test_decode_vrd : decodeTableWord 32 0x60000302 = some (.vrd 2 3) := by decide +kernel
theorem test_decode_smode : decodeTableWord 32 0x70000000 = some (.smode .midiUsb) ∧
    decodeTableWord 32 0x70000001 = some (.smode .midiJack) ∧
    decodeTableWord 32 0x70000002 = some (.smode .fixed) ∧
    decodeTableWord 32 0x70000003 = some (.smode .pink) := by decide +kernel
theorem test_decode_sbend : decodeTableWord 32 0x80000001 = some (.sbend true) ∧
    decodeTableWord 32 0x80000000 = some (.sbend false) := by decide +kernel
theorem test_decode_sper : decodeTableWord 32 0x9FFFFFFF = some (.sper 0x0FFFFFFF) := by decide +kernel
theorem test_decode_swid : decodeTableWord 32 0xA0000032 = some (.swid 50) := by decide +kernel
theorem test_decode_tick : decodeTableWord 32 0xB0000000 = some .tick := by decide +kernel
theorem test_decode_rdreg : decodeTableWord 32 0xC0000004 = some (.rdreg 4) := by decide +kernel

/-- DF-1, DF-2. -/
theorem test_decode_illegal : decode 0xD0000000 = .error .illegalOp ∧ decode 0xF1234567 = .error .illegalOp := by
  constructor <;> rfl

/-- PR-9, VO-26, PO-3, PO-5, SY-2, SY-9, DF-3, DF-4 and the words of R70 beside them. -/
theorem test_decode_reserved :
    [0x10000001, 0x28000000, 0x30000001, 0x60000800, 0x70000004, 0x80000002, 0x00000001, 0xC0000010, 0xB0000001,
      0x50000100].all (fun w => (decodeTableWord 32 w).isNone) = true := by decide +kernel

/-- R72 with its example words. -/
theorem test_assemble :
    assemble (String.toList "VASGN 0, 1, 60, 100 ; note on\n\nSMODE fixed\nVRD 0x0, phase\nRDREG fault_cmd\nSPER 1000") =
      some [0x413C6400, 0x70000002, 0x60000400, 0xC000000C, 0x900003E8] := by decide +kernel

/-! ### One step of each command -/

/-- SY-1. -/
theorem test_nop : after .nop oneVoice = oneVoice := by decide +kernel

/-- PR-1. -/
theorem test_permute : permute 1 = 0x00042021 ∧ permute 0x12345678 = 0x87985AA5 ∧
    permute 0xFFFFFFFF = 0x0003E01F := by decide +kernel

/-- PR-2. -/
theorem test_pinit : (after .pinit (at_ 0 2 fromReset)).prngX = 0xDD6E6ABC := by decide +kernel

/-- PR-2. -/
theorem test_pinit_plain :
    (after .pinit (at_ 0 1000 (State.resetWith plainInstance))).prngX = 0xC5A9158F := by decide +kernel

/-- P2 step 2. -/
theorem test_pnext : (after .pnext seeded).result = 0xB6 ∧ (after .pnext seeded).prngX = 0x1705B6A0 := by
  decide +kernel

/-- P2 with `PRNG_SEL = PRE`, its second draw. -/
theorem test_pnext_pre :
    (after .pnext { seeded with cfg := { instance95 with prngSel := .pre }, prngX := 0x1705B6A0, prngCnt := 1 }).result =
      0xB6 := by decide +kernel

/-- S1 step 3. -/
theorem test_vfind : (after .vfind { fromReset with voices := fullTable.voices.set 2 (emptySlot instance95) }).result = 2 := by
  decide +kernel

/-- P6 step 5: a full table. -/
theorem test_vfind_none : (after .vfind fullTable).result = 0xFFFFFFFF := by decide +kernel

/-- VO-3. -/
theorem test_vasgn : (after (.vasgn 3 15 127 127) (at_ 1000 0xFFFFFFFF fromReset)).voices[3]? =
    some ⟨15, 127, 127, 80, 40, 0xFFFFFFFF⟩ := by decide +kernel

/-- VO-11, DF-10: the index is reported before the pitch and the velocity. -/
theorem test_vasgn_priority : (after (.vasgn 4 0 200 0) fromReset).fault = 3 ∧
    (after (.vasgn 4 0 200 0) fromReset).faultCmd = 0x40C80004 := by decide +kernel

/-- VO-14. -/
theorem test_vrel : (after (.vrel 0) oneVoice).voices[0]? = some ⟨0, 255, 0, 122312, 0, 0⟩ := by decide +kernel

/-- VO-17. -/
theorem test_vrel_index : (after (.vrel 255) fromReset).fault = 3 := by decide +kernel

/-- VO-23. -/
theorem test_vrd : (after (.vrd 0 4) oneVoice).result = 0x934 := by decide +kernel

/-- VO-25, VO-24. -/
theorem test_vrd_priority : (after (.vrd 4 7) fromReset).fault = 3 ∧ (after (.vrd 0 6) fromReset).fault = 4 := by
  decide +kernel

/-- PO-2: the accumulator's times are kept. -/
theorem test_smode : (after (.smode .pink) running).mode = .pink ∧ (after (.smode .pink) running).accArmed = false ∧
    (after (.smode .pink) running).gate = false ∧ (after (.smode .pink) running).accNext = 6000 := by decide +kernel

/-- PO-4. -/
theorem test_sbend : (after (.sbend true) fromReset).bend = true := by decide +kernel

/-- PO-6. -/
theorem test_sper : (after (.sper 0x0FFFFFFF) fromReset).periodSp = 0x0FFFFFFF := by decide +kernel

/-- PO-7. -/
theorem test_swid : (after (.swid 0) { fromReset with widthSp := 9 }).widthSp = 0 := by decide +kernel

/-- PO-13, PO-14: one microsecond decides between the scheduled start and the clock. -/
theorem test_tick_late : (after .tick (at_ 6999 0 running)).accLast = 6000 ∧
    (after .tick (at_ 6999 0 running)).result = 2 ∧ (after .tick (at_ 7000 0 running)).accLast = 7000 ∧
    (after .tick (at_ 7000 0 running)).result = 3 := by decide +kernel

/-- PO-27: the square wave of a MIDI voice. -/
theorem test_tick_midi :
    [10000, 10049, 10050, 13822].map (fun t => (after .tick (at_ t 0 { oneVoice with widthSp := 50 })).result) =
      [1, 1, 0, 1] := by decide +kernel

/-- P3 step 6. -/
theorem test_tick_jitter : (after .tick jittered).accNext = 6054 ∧ (after .tick jittered).prngCnt = 1 := by
  decide +kernel

/-- PO-24: the pink mode of an instance in which it forces jitter draws without bend. -/
def pinkForced : State :=
  { seeded with cfg := { instance95 with pinkForcesJitter := true }, mode := .pink, periodSp := 1000, widthSp := 50,
                usClk := 5000 }

/-- PO-23, PO-24. -/
theorem test_tick_pink : (after .tick { pinkForced with cfg := instance95 }).accNext = 6000 ∧
    (after .tick { pinkForced with cfg := instance95 }).prngCnt = 0 ∧ (after .tick pinkForced).accNext = 6054 ∧
    (after .tick pinkForced).prngX = 0x1705B6A0 ∧ (after .tick pinkForced).prngCnt = 1 := by decide +kernel

/-- PO-16, PO-17. -/
theorem test_tick_wrap : (after .tick (at_ 2147489648 0 running)).accNext = 6000 ∧
    (after .tick (at_ 0xFFFFFF00 0 f1000)).accNext = 0x2E8 := by decide +kernel

/-- SY-5, SY-6, SY-7. -/
theorem test_rdreg_config : (after (.rdreg 13) fromReset).result = 0x00650004 ∧
    (after (.rdreg 13) (State.resetWith plainInstance)).result = 0x00641004 ∧
    (after (.rdreg 13)
      (State.resetWith { instance95 with slots := 256, prngSel := .pre, pinkForcesJitter := true })).result =
        0x00656100 := by decide +kernel

/-- SY-11, SY-8. -/
theorem test_rdreg_faults : (after (.rdreg 4) fromReset).fault = 7 ∧ (after (.rdreg 14) fromReset).fault = 4 := by
  decide +kernel

/-- DF-7: the second fault sets `MULTI` only. -/
theorem test_second_fault : (after (.vrel 9) faultedState).fault = 0x101 ∧
    (after (.vrel 9) faultedState).faultCmd = 0xD0000000 := by decide +kernel

/-- DF-1 and DF-9 through the port: a rejected word, then reset. -/
theorem test_step_rejects : (stepped (fromReset.withFetchWord 32 0xD0000000)).faultCmd = 0xD0000000 ∧
    (stepped { faultedState with schedule := [.reset] }).fault = 0 := by decide +kernel

/-- P2 step 2 through the port. -/
theorem test_step_runs : (stepped (seeded.withFetchWord 32 0x20000000)).result = 0xB6 := by decide +kernel

/-! ### Witnesses: concrete inputs that meet a statement's hypotheses -/

theorem witness_AcceptedWordIsItsEncoding : decode 0x413C6400 = .ok (.vasgn 0 1 60 100) := by rfl

/-- One word per opcode with its reserved bits clear, and one with a reserved bit set where there is one. -/
theorem witness_DecodeFollowsTheOpcodeMap :
    ([0x00000000, 0x10000000, 0x20000000, 0x30000000, 0x4F7F7F03, 0x500000FF, 0x60000704, 0x70000003, 0x80000001,
      0x9FFFFFFF, 0xAFFFFFFF, 0xB0000000, 0xC000000F] : List Word).map (fun w => w.toNat / 2 ^ 28) = List.range 13 ∧
    ([0x00000001, 0x18000000, 0x20000001, 0x38000000, 0x50000100, 0x60000800, 0x70000004, 0x80000002, 0xB0000001,
      0xC0000010] : List Word).map (fun w => w.toNat / 2 ^ 28) = [0, 1, 2, 3, 5, 6, 7, 8, 11, 12] := by decide +kernel

theorem witness_StepRunsTheDecodedCommand : decode 0xB0000000 = .ok .tick ∧
    (controlNext (cmdWrite 0xB0000000 5 6) fromReset).schedule = .control :: [.timing] ∧
    (controlNext (cmdWrite 0xB0000000 5 6) fromReset).control.NextIs ⟨0, .word, .write 0xB0000000 5 6⟩ [] ∧
    (timingNext (cmdWrite 0xB0000000 5 6) fromReset).schedule = .timing :: [.control] ∧
    (timingNext (cmdWrite 0xB0000000 5 6) fromReset).timing.NextIs ⟨0, .word, .write 0xB0000000 5 6⟩
      [cmdWrite 0xB0000000 5 6] := ⟨rfl, rfl, rfl, rfl, rfl⟩

theorem witness_StepRecordsARejectedWord : decode 0xD0000000 = .error .illegalOp ∧ decode 0x00000001 = .error .rsvdBits ∧
    (controlNext (cmdWrite 0xD0000000 5 6) fromReset).schedule = .control :: [.timing] ∧
    (controlNext (cmdWrite 0xD0000000 5 6) fromReset).control.NextIs ⟨0, .word, .write 0xD0000000 5 6⟩ [] ∧
    (timingNext (cmdWrite 1 5 6) fromReset).schedule = .timing :: [.control] ∧
    (timingNext (cmdWrite 1 5 6) fromReset).timing.NextIs ⟨0, .word, .write 1 5 6⟩ [cmdWrite 1 5 6] :=
  ⟨rfl, rfl, rfl, rfl, rfl, rfl⟩

theorem witness_OfferedWordIsExecutedNext : decodeTableWord 32 0x413C6402 = some (.vasgn 2 1 60 100) := by
  decide +kernel

theorem witness_ResetKeepsTheHostSide :
    ({ running with schedule := [.reset, .control] } : State).schedule = .reset :: [.control] := rfl

theorem witness_ResetRestoresEveryValue :
    ({ faultedState with schedule := [.reset, .control] } : State).schedule = .reset :: [.control] ∧
    PeriodIs faultedState.cfg 0 122312 := by decide +kernel

/-- A good state before, during and after a run of pulses, and a step from it. -/
theorem witness_StepKeepsTheInvariant : fromReset.Inv ∧ running.Inv ∧ oneVoice.Inv ∧ faultedState.Inv ∧
    (controlNext (cmdWrite 0xB0000000 5 6) running).Inv ∧
    step (controlNext (cmdWrite 0xB0000000 5 6) running) =
      .next (stepped (controlNext (cmdWrite 0xB0000000 5 6) running)) :=
  ⟨by decide +kernel, by decide +kernel, by decide +kernel, by decide +kernel, by decide +kernel, rfl⟩

theorem witness_StepKeepsTheParameters : step (controlNext (cmdWrite 0xD0000000 5 6) running) =
    .next (stepped (controlNext (cmdWrite 0xD0000000 5 6) running)) := by rfl

/-- A narrow write, an unaligned access, and a write to `RESULT`, by either agent. -/
theorem witness_MisusedPortHasNoStep :
    (controlNext ⟨0, .byte, .write 0 0 0⟩ fromReset).schedule = .control :: [.timing] ∧
    (controlNext ⟨0, .byte, .write 0 0 0⟩ fromReset).control.NextIs ⟨0, .byte, .write 0 0 0⟩ [] ∧
    (controlNext ⟨3, .word, .read⟩ fromReset).control.NextIs ⟨3, .word, .read⟩ [] ∧
    (timingNext ⟨7, .word, .read⟩ fromReset).schedule = .timing :: [.control] ∧
    (timingNext ⟨7, .word, .read⟩ fromReset).timing.NextIs ⟨7, .word, .read⟩ [⟨7, .word, .read⟩] ∧
    (timingNext ⟨4, .word, .write 9 0 0⟩ fromReset).timing.NextIs ⟨4, .word, .write 9 0 0⟩
      [⟨4, .word, .write 9 0 0⟩] ∧ (⟨4, .word, .write 9 0 0⟩ : HostAccess).kind ≠ .read ∧
    (⟨0, .byte, .write 0 0 0⟩ : HostAccess).size ≠ .word ∧ (3 : Fin 8) ≠ 0 ∧ (3 : Fin 8) ≠ 4 ∧
    (7 : Fin 8) ≠ 0 ∧ (7 : Fin 8) ≠ 4 := by decide +kernel

theorem witness_PortReadsHaveNoSideEffect :
    (controlNext ⟨4, .word, .read⟩ running).schedule = .control :: [.timing] ∧
    (controlNext ⟨4, .word, .read⟩ running).control.NextIs ⟨4, .word, .read⟩ [] ∧
    (controlNext ⟨0, .word, .read⟩ running).schedule = .control :: [.timing] ∧
    (controlNext ⟨0, .word, .read⟩ running).control.NextIs ⟨0, .word, .read⟩ [] ∧
    (timingNext ⟨4, .word, .read⟩ running).schedule = .timing :: [.control] ∧
    (timingNext ⟨4, .word, .read⟩ running).timing.NextIs ⟨4, .word, .read⟩ [⟨4, .word, .read⟩] ∧
    (timingNext ⟨0, .word, .read⟩ running).schedule = .timing :: [.control] ∧
    (timingNext ⟨0, .word, .read⟩ running).timing.NextIs ⟨0, .word, .read⟩ [⟨0, .word, .read⟩] := by decide +kernel

/-- One command that leaves the record alone and one that faults, in a state with `MULTI` set. -/
theorem witness_FaultsArePrecise :
    exec .tick (State.withoutRecord { running with fault := 0x101 }) =
      .next (after .tick (State.withoutRecord { running with fault := 0x101 })) ∧
    (after .tick (State.withoutRecord { running with fault := 0x101 })).fault = 0 ∧
    exec .pnext (State.withoutRecord { running with fault := 0x101 }) =
      .next (after .pnext (State.withoutRecord { running with fault := 0x101 })) ∧
    (after .pnext (State.withoutRecord { running with fault := 0x101 })).fault ≠ 0 :=
  ⟨rfl, by decide +kernel, rfl, by decide +kernel⟩

theorem witness_SecondFaultSetsMulti : faultedState.faulted = true ∧ fromReset.cfg.slots = 4 ∧ fromReset.fault = 0 := by
  decide +kernel

/-- A command that reads the record's neighbour, a faulted state that faults again, and a reset. -/
theorem witness_FaultRecordLastsUntilReset : Instr.rdreg 0xA ≠ .rdreg 0xB ∧ Instr.rdreg 0xA ≠ .rdreg 0xC ∧
    exec (.rdreg 0xA) faultedState = .next (after (.rdreg 0xA) faultedState) ∧
    step (faultedState.withFetchWord 32 0x50000009) = .next (stepped (faultedState.withFetchWord 32 0x50000009)) ∧
    (faultedState.withFetchWord 32 0x50000009).portEvent ≠ .reset ∧
    (faultedState.withFetchWord 32 0x50000009).faulted = true ∧
    step { faultedState with schedule := [.reset] } = .next (stepped { faultedState with schedule := [.reset] }) ∧
    ({ faultedState with schedule := [.reset] } : State).portEvent = .reset :=
  ⟨by decide, by decide, rfl, rfl, by decide +kernel, by decide +kernel, rfl, by decide +kernel⟩

/-- The zero seed, and the rule's example with either `WARMUP`. -/
theorem witness_PinitSeedsAndWarmsUp : (at_ 0 2 fromReset).cfg.prngMagic = 3 ∧ (at_ 0 2 fromReset).msClk = 2 ∧
    (at_ 0 2 fromReset).cfg.warmup = 101 ∧ (at_ 0 2 (State.resetWith plainInstance)).cfg.warmup = 100 ∧
    (at_ 0 2 (State.resetWith plainInstance)).cfg.prngMagic = 3 ∧ (at_ 0 3 fromReset).cfg.prngMagic = (at_ 0 3 fromReset).msClk ∧
    exec .pinit (at_ 0 3 fromReset) = .next (after .pinit (at_ 0 3 fromReset)) :=
  ⟨rfl, rfl, rfl, rfl, rfl, rfl, rfl⟩

/-- The clock at the magic constant, and the state that its `PINIT` leaves. -/
theorem witness_ZeroSeedDrawsZeroForever : (at_ 0 3 running).cfg.prngMagic = (at_ 0 3 running).msClk ∧
    ({ seeded with prngX := 0 } : State).seeded = true ∧ ({ seeded with prngX := 0 } : State).prngX = 0 ∧
    exec .pnext { seeded with prngX := 0 } = .next (after .pnext { seeded with prngX := 0 }) ∧
    (Instr.pnext ≠ .pinit) := ⟨rfl, rfl, rfl, rfl, by decide⟩

/-- Seeded and unseeded, with either select and the counter at both ends. -/
theorem witness_PnextDrawsTheSelectedByte : seeded.cfg.prngVariant = .counter ∧ seeded.seeded = true ∧
    seeded.cfg.prngSel = .post ∧ seeded.prngCnt = 0 ∧
    ({ seeded with prngCnt := 3, cfg := { instance95 with prngSel := .pre } } : State).cfg.prngVariant = .counter ∧
    ({ seeded with prngCnt := 3, cfg := { instance95 with prngSel := .pre } } : State).seeded = true ∧
    fromReset.cfg.prngVariant = .counter ∧ fromReset.seeded = false := by decide +kernel

theorem witness_PlainPnextPermutesEveryTime :
    ({ seeded with cfg := plainInstance } : State).cfg.prngVariant = .plain ∧
    ({ seeded with cfg := plainInstance } : State).seeded = true ∧
    (State.resetWith plainInstance).cfg.prngVariant = .plain ∧ (State.resetWith plainInstance).seeded = false := by
  decide +kernel

/-- Jitter by bend in either frequency mode and by the pink mode alone; due because unarmed, and because
`ACC_NEXT` has just come. -/
theorem witness_UnseededDrawFaults : unseededJitter.seeded = false ∧ unseededJitter.Jitters ∧ unseededJitter.Due ∧
    State.Jitters { unseededJitter with mode := .pink } ∧
    State.Jitters { pinkForced with seeded := false } ∧ State.Due { pinkForced with seeded := false } ∧
    State.Jitters { running with bend := true, usClk := 6000 } ∧
    State.Due { running with bend := true, usClk := 6000 } := by decide +kernel

theorem witness_CounterStreamCoversEveryByte : seeded.cfg.prngVariant = .counter ∧ seeded.seeded = true ∧
    seeded.prngCnt = 0 := ⟨rfl, rfl, rfl⟩

/-- Two states that differ in mode, counter and clock, with the same seed. -/
theorem witness_StreamDependsOnlyOnTheSeed :
    (at_ 0 2 fromReset).cfg.prngMagic - (at_ 0 2 fromReset).msClk =
      (at_ 9 2 { running with prngCnt := 3 }).cfg.prngMagic - (at_ 9 2 { running with prngCnt := 3 }).msClk ∧
    (∃ u, execAll (.pinit :: List.replicate (0 + 1) .pnext) (at_ 0 2 fromReset) = .next u) ∧
    (∃ v, execAll (.pinit :: List.replicate (0 + 1) .pnext) (at_ 9 2 { running with prngCnt := 3 }) = .next v) ∧
    (at_ 0 2 fromReset).cfg.prngVariant = (at_ 9 2 { running with prngCnt := 3 }).cfg.prngVariant ∧
    (at_ 0 2 fromReset).cfg.prngSel = (at_ 9 2 { running with prngCnt := 3 }).cfg.prngSel ∧
    (at_ 0 2 fromReset).cfg.warmup = (at_ 9 2 { running with prngCnt := 3 }).cfg.warmup :=
  ⟨rfl, ⟨after .pnext (after .pinit (at_ 0 2 fromReset)), rfl⟩,
    ⟨after .pnext (after .pinit (at_ 9 2 { running with prngCnt := 3 })), rfl⟩, rfl, rfl, rfl⟩

theorem witness_UnseededEntropyWordIsInvisible : fromReset.seeded = false ∧
    exec .pnext fromReset = .next (after .pnext fromReset) ∧
    exec .pinit fromReset = .next (after .pinit fromReset) := ⟨rfl, rfl, rfl⟩

theorem witness_SeededMachineNeverLacksEntropy : seeded.seeded = true ∧
    exec (.vrel 9) seeded = .next (after (.vrel 9) seeded) := ⟨rfl, rfl⟩

/-- A table with an empty slot, one without. -/
theorem witness_VfindReturnsTheFirstEmptySlot : oneVoice.voices.length = oneVoice.cfg.slots ∧
    fullTable.voices.length = fullTable.cfg.slots := by decide +kernel

/-- The least and the greatest legal operands, then the least illegal operand of each kind. -/
theorem witness_VasgnWritesTheWholeSlot : (0 : Byte).toNat < fromReset.cfg.slots ∧
    (3 : Byte).toNat < fromReset.cfg.slots ∧ (0 : Byte).toNat ≤ 127 ∧ (127 : Byte).toNat ≤ 127 ∧
    1 ≤ (1 : Byte).toNat ∧ PeriodIs fromReset.cfg (0 : Byte).toNat 122312 ∧
    PeriodIs fromReset.cfg (127 : Byte).toNat 80 ∧ fromReset.cfg.slots ≤ (4 : Byte).toNat ∧
    127 < (128 : Byte).toNat ∧ (0 : Byte).toNat = 0 := by decide +kernel

theorem witness_VrelEmptiesTheSlot : PeriodIs oneVoice.cfg 0 122312 ∧ (3 : Byte).toNat < oneVoice.cfg.slots ∧
    oneVoice.cfg.slots ≤ (4 : Byte).toNat := by decide +kernel

theorem witness_VrelOfAnEmptySlotChangesNothing : oneVoice.Inv ∧
    oneVoice.SlotIs (3 : Byte).toNat (emptySlot instance95) ∧ (emptySlot instance95).pitch = 255 := by decide +kernel

theorem witness_VrdReadsOneField : oneVoice.SlotIs (0 : Byte).toNat voice5 ∧
    oneVoice.cfg.slots ≤ (4 : Byte).toNat ∧ (3 : Byte).toNat < oneVoice.cfg.slots ∧ 5 < (6 : BitVec 3).toNat := by
  decide +kernel

theorem witness_AssignThenFindRoundTrip : oneVoice.Inv ∧ (3 : Byte).toNat < oneVoice.cfg.slots ∧
    (127 : Byte).toNat ≤ 127 ∧ 1 ≤ (1 : Byte).toNat ∧ (1 : Byte).toNat ≤ 127 := by decide +kernel

/-- Four notes, one for each index. -/
def fourNotes : List (Byte × BitVec 4 × Byte × Byte) := [(3, 0, 60, 1), (1, 2, 127, 127), (0, 15, 0, 90), (2, 1, 64, 1)]

theorem witness_FullTableFindsNone : fromReset.Inv ∧
    (∀ n ∈ fourNotes, n.1.toNat < fromReset.cfg.slots ∧ n.2.2.1.toNat ≤ 127 ∧ 1 ≤ n.2.2.2.toNat ∧ n.2.2.2.toNat ≤ 127) ∧
    (∀ i, i < fromReset.cfg.slots → ∃ n ∈ fourNotes, n.1.toNat = i) := by
  refine ⟨by decide +kernel, by simp [fourNotes, fromReset, State.resetWith, instance95], fun i hi => ?_⟩
  simp only [fromReset, State.resetWith, instance95] at hi
  simp [fourNotes]
  omega

theorem witness_RacingAssignOverwritesSilently : fromReset.Inv ∧ (0 : Byte).toNat < fromReset.cfg.slots ∧
    (60 : Byte).toNat ≤ 127 ∧ (64 : Byte).toNat ≤ 127 ∧ 1 ≤ (100 : Byte).toNat ∧ (100 : Byte).toNat ≤ 127 := by
  decide +kernel

theorem witness_MidiTickIsTheOrOfVoices : oneVoice.mode = .midiUsb ∧ oneVoice.voices.length = oneVoice.cfg.slots ∧
    ({ oneVoice with mode := .midiJack } : State).mode = .midiJack := by decide +kernel

theorem witness_MidiTickIgnoresFrequencyState : oneVoice.mode = .midiUsb ∨ oneVoice.mode = .midiJack := .inl rfl

theorem witness_VelocityDoesNotScaleThePulse : oneVoice.SlotIs 0 voice5 ∧
    voice5.velocity ≠ 0 ∧ (1 : Byte) ≠ 0 ∧ exec .tick oneVoice = .next (after .tick oneVoice) ∧
    exec .tick { oneVoice with voices := oneVoice.voices.set 0 { voice5 with velocity := 1 } } =
      .next (after .tick { oneVoice with voices := oneVoice.voices.set 0 { voice5 with velocity := 1 } }) :=
  ⟨by decide +kernel, by decide, by decide, rfl, rfl⟩

/-- Pitch 60 assigned at 10000, seen two periods later. -/
theorem witness_NewVoiceFiresEveryPeriod : (at_ 10000 10 { fromReset with widthSp := 50 }).Inv ∧
    (at_ 10000 10 { fromReset with widthSp := 50 }).mode = .midiUsb ∧ 0 < (50 : Word).toNat ∧
    (0 : Byte).toNat < instance95.slots ∧ (60 : Byte).toNat ≤ 127 ∧ 1 ≤ (100 : Byte).toNat ∧ (100 : Byte).toNat ≤ 127 ∧
    PeriodIs instance95 (60 : Byte).toNat 3822 ∧ (17644 : Word).toNat = (10000 : Word).toNat + 2 * (3822 : Word).toNat := by
  decide +kernel

theorem witness_OnlyBendDecidesJitterUnlessForced : jittered.cfg.pinkForcesJitter = false ∧ jittered.mode = .fixed ∧
    exec .tick jittered = .next (after .tick jittered) := ⟨rfl, rfl, rfl⟩

/-- Unarmed; just due; one microsecond before a whole period late; a whole period late; pink without forcing. -/
theorem witness_SteadyTickStartsAPulse : instance95.Valid ∧ f1000.FrequencyMode ∧ ¬ f1000.Jitters ∧ f1000.Due ∧
    State.FrequencyMode { running with mode := .pink } ∧ ¬ State.Jitters { running with mode := .pink } ∧
    (at_ 6000 0 running).Due ∧ (at_ 6999 0 running).Due ∧ (at_ 7000 0 running).Due := by decide +kernel

/-- Jitter by bend, and by the pink mode alone (PO-24). -/
theorem witness_JitteredTickDrawsOneByte : jittered.cfg.Valid ∧ jittered.Jitters ∧ jittered.seeded = true ∧
    jittered.Due ∧ State.Due (at_ 6000 0 { jittered with accArmed := true, accNext := 6000 }) ∧
    pinkForced.cfg.Valid ∧ pinkForced.bend = false ∧ pinkForced.Jitters ∧ pinkForced.seeded = true ∧
    pinkForced.Due := by decide +kernel

/-- One microsecond before `ACC_NEXT`, and 2^31 after it (PO-16). -/
theorem witness_EarlyTickOnlySetsTheGate : running.mode = .fixed ∧ running.accArmed = true ∧
    ((at_ 5999 0 running).usClk - (at_ 5999 0 running).accNext).toInt < 0 ∧
    ((at_ 2147489648 0 running).usClk - (at_ 2147489648 0 running).accNext).toInt < 0 := by decide +kernel

theorem witness_DefaultJitterIsSymmetric : instance95.jitter = .default 1 := rfl

theorem witness_TickResultBits : jittered.CanDraw ∧ exec .tick jittered = .next (after .tick jittered) ∧
    oneVoice.CanDraw ∧ exec .tick oneVoice = .next (after .tick oneVoice) :=
  ⟨by decide +kernel, rfl, by decide +kernel, rfl⟩

theorem witness_PulsePeriodIsClamped : jittered.cfg.Valid ∧ jittered.mode = .fixed ∧ jittered.Due ∧ jittered.CanDraw ∧
    exec .tick jittered = .next (after .tick jittered) ∧ (at_ 6000 0 running).Due ∧ running.CanDraw :=
  ⟨by decide +kernel, rfl, by decide +kernel, by decide +kernel, rfl, by decide +kernel, by decide +kernel⟩

/-- The last sample that reads as due and the first that does not. -/
theorem witness_LateTickResynchronizes : running.cfg.Valid ∧ running.mode = .fixed ∧ running.accArmed = true ∧
    running.CanDraw ∧
    ((at_ 2147489647 0 running).usClk - (at_ 2147489647 0 running).accNext).toNat < 2 ^ 31 ∧
    exec .tick (at_ 2147489647 0 running) = .next (after .tick (at_ 2147489647 0 running)) ∧
    2 ^ 31 ≤ ((at_ 2147489648 0 running).usClk - (at_ 2147489648 0 running).accNext).toNat :=
  ⟨by decide +kernel, rfl, rfl, by decide +kernel, by decide +kernel, rfl, by decide +kernel⟩

theorem witness_RdregReadsEveryRegister : fromReset.Inv ∧ fromReset.faulted = false ∧
    (State.resetWith plainInstance).Inv ∧ (State.resetWith plainInstance).cfg.prngVariant = .plain := by decide +kernel

/-- The least and the greatest `N`. -/
theorem witness_ConfigWordFields : Params.Valid { instance95 with slots := 1 } ∧
    Params.Valid { instance95 with slots := 256 } := by decide +kernel

theorem witness_OnlyItsWritersChangeAPiece : exec .tick jittered = .next (after .tick jittered) := rfl

theorem witness_OnlyTickFiresTheGate : exec .tick jittered = .next (after .tick jittered) ∧ jittered.gate = false ∧
    (after .tick jittered).gate = true := ⟨rfl, rfl, by decide +kernel⟩

theorem witness_ReadingAndSettingAreIdempotent : exec (.vrd 0 4) oneVoice = .next (after (.vrd 0 4) oneVoice) ∧
    (after (.vrd 0 4) oneVoice).fault = oneVoice.fault := ⟨rfl, by decide +kernel⟩

end Sys2Proof.Tests
end

/-! What a command's effect can do to the state, said once for all thirteen commands: the inversion that the
whole-machine statements split on, and the equations of `TICK` that it and they use. -/

namespace Sys2Proof.Machine

open Sys2Proof

/-- `Effect i s t`: `t` differs from `s` by the writes that the command `i` makes when it raises no fault. -/
inductive Effect : Instr → State → State → Prop
  | nop {s} : Effect .nop s s
  | pinit {s} (x : Word) : Effect .pinit s (s.setPrng x 0).markSeeded
  | pnext {s} (x : Word) (c : BitVec 2) (w : Word) (seeded : s.seeded = true)
      (plain : s.cfg.prngVariant = .plain → c = s.prngCnt) : Effect .pnext s ((s.setPrng x c).setResult w)
  | vfind {s} (w : Word) : Effect .vfind s (s.setResult w)
  | vasgn {s} {idx : Byte} {ch : BitVec 4} {pitch vel : Byte} (legal : pitch.toNat ≤ 127)
      (audible : 1 ≤ vel.toNat ∧ vel.toNat ≤ 127) :
      Effect (.vasgn idx ch pitch vel) s (s.setSlot idx.toNat (assignedSlot s ch pitch.toNat vel))
  | vrel {s} {idx : Byte} : Effect (.vrel idx) s (s.setSlot idx.toNat (emptySlot s.cfg))
  | vrd {s} {idx : Byte} {fsel : BitVec 3} (w : Word) : Effect (.vrd idx fsel) s (s.setResult w)
  | smode {s} {m : Mode} : Effect (.smode m) s (((s.setMode m).setArmed false).setGate false)
  | sbend {s} {b : Bool} : Effect (.sbend b) s (s.setBend b)
  | sper {s} {us : BitVec 28} : Effect (.sper us) s (s.setPeriodSp (immediate us))
  | swid {s} {us : BitVec 28} : Effect (.swid us) s (s.setWidthSp (immediate us))
  /-- A `TICK` of a MIDI mode, or one before `ACC_NEXT`. -/
  | tickGate {s} (g : Bool) : Effect .tick s (s.showTick false g)
  /-- A `TICK` that starts a pulse at `base`, with the draw it may have needed. -/
  | tickPulse {s} (x : Word) (c : BitVec 2) (base : Word) (v : Int) (g : Bool)
      (plain : s.cfg.prngVariant = .plain → c = s.prngCnt)
      (undrawn : s.seeded = false → x = s.prngX ∧ c = s.prngCnt) :
      Effect .tick s
        (((s.setPrng x c).schedulePulse base (base + BitVec.ofInt 32 (clampPeriod s.cfg v))).showTick true g)
  | rdreg {s} {rsel : BitVec 4} (w : Word) : Effect (.rdreg rsel) s (s.setResult w)

theorem tickEffect_of_midi {s : State} (hm : isFrequency s.mode = false) :
    tickEffect s = .ok (s.showTick false (s.midiGate s.usClk)) := by
  simp [tickEffect, hm]

theorem tickEffect_of_early {s : State} (hm : isFrequency s.mode = true) (hd : s.pulseDue s.usClk = false) :
    tickEffect s = .ok (s.showTick false (s.freqGate s.usClk)) := by
  simp [tickEffect, State.freqStep, hm, hd]

theorem tickEffect_of_due {s : State} (hm : isFrequency s.mode = true) (hd : s.pulseDue s.usClk = true) :
    tickEffect s = (s.startPulse s.usClk).map fun u => u.showTick true (u.freqGate s.usClk) := by
  simp only [tickEffect, State.freqStep, hm, hd, if_true]
  cases s.startPulse s.usClk <;> rfl

theorem tickEffect_ok {s t : State} (h : tickEffect s = .ok t) : Effect .tick s t := by
  rcases tickEffect_cases s with ⟨_, he⟩ | ⟨_, _, he⟩ | ⟨_, _, c, _, he⟩ | ⟨_, _, u, hu, he⟩ <;>
    rw [he] at h <;> cases h
  · exact .tickGate _
  · exact .tickGate _
  · obtain ⟨_, v, _, x, c, _, rfl, rfl, hplain, hundrawn, rfl⟩ := State.startPulse_ok hu
    exact .tickPulse x c _ v _ hplain hundrawn

theorem pnextEffect_ok {s t : State} (h : pnextEffect s = .ok t) : Effect .pnext s t := by
  rcases pnextEffect_cases s with ⟨_, he⟩ | ⟨hs, b, x, c, _, hplain, he⟩ <;> rw [he] at h <;> cases h
  exact .pnext x c _ hs hplain

theorem vasgnEffect_ok {idx : Byte} {ch : BitVec 4} {pitch vel : Byte} {s t : State}
    (h : vasgnEffect idx ch pitch vel s = .ok t) : Effect (.vasgn idx ch pitch vel) s t := by
  rcases vasgnEffect_cases idx ch pitch vel s with ⟨_, he⟩ | ⟨_, _, he⟩ | ⟨_, _, _, he⟩ | ⟨_, hp, hv, hv', he⟩ <;>
    rw [he] at h <;> cases h
  exact .vasgn hp ⟨hv, hv'⟩

theorem vrelEffect_ok {idx : Byte} {s t : State} (h : vrelEffect idx s = .ok t) : Effect (.vrel idx) s t := by
  rcases vrelEffect_cases idx s with ⟨_, he⟩ | ⟨_, he⟩ <;> rw [he] at h <;> cases h
  exact .vrel

theorem vrdEffect_ok {idx : Byte} {fsel : BitVec 3} {s t : State} (h : vrdEffect idx fsel s = .ok t) :
    Effect (.vrd idx fsel) s t := by
  rcases vrdEffect_cases idx fsel s with ⟨_, _, he⟩ | ⟨w, he⟩ <;> rw [he] at h <;> cases h
  exact .vrd w

theorem rdregEffect_ok {rsel : BitVec 4} {s t : State} (h : rdregEffect rsel s = .ok t) :
    Effect (.rdreg rsel) s t := by
  rcases rdregEffect_cases rsel s with ⟨_, _, he⟩ | ⟨w, he⟩ <;> rw [he] at h <;> cases h
  exact .rdreg w

/-- Every effect of the model is one of the listed ones. -/
theorem effectOf_ok {i : Instr} {s t : State} (h : effectOf i s = .ok t) : Effect i s t := by
  cases i with
  | nop => cases h; exact .nop
  | pinit => cases h; exact .pinit _
  | pnext => exact pnextEffect_ok h
  | vfind => cases h; exact .vfind _
  | vasgn => exact vasgnEffect_ok h
  | vrel => exact vrelEffect_ok h
  | vrd => exact vrdEffect_ok h
  | smode => cases h; exact .smode
  | sbend => cases h; exact .sbend
  | sper => cases h; exact .sper
  | swid => cases h; exact .swid
  | tick => exact tickEffect_ok h
  | rdreg => exact rdregEffect_ok h

/-- A command makes its writes, or records one cause and makes none of them (R10, R122). -/
theorem exec_effect {i : Instr} {s t : State} (h : exec i s = .next t) :
    Effect i s t ∨ ∃ c, t = s.raise c (encode i) := by
  rcases exec_cases h with hok | ⟨c, _, rfl⟩
  · exact .inl (effectOf_ok hok)
  · exact .inr ⟨c, rfl⟩

/-- Only a draw or a read of `PRNG_X` raises `UNSEEDED`, and only before the first `PINIT` (R82, R115). -/
theorem effectOf_unseeded {i : Instr} {s : State} (h : effectOf i s = .error .unseeded) : s.seeded = false := by
  cases i with
  | nop | pinit | vfind | smode | sbend | sper | swid => cases h
  | pnext =>
    rcases pnextEffect_cases s with ⟨hs, _⟩ | ⟨_, _, _, _, _, _, he⟩
    · exact hs
    · cases he.symm.trans h
  | vasgn idx ch pitch vel =>
    rcases vasgnEffect_cases idx ch pitch vel s with ⟨_, he⟩ | ⟨_, _, he⟩ | ⟨_, _, _, he⟩ | ⟨_, _, _, _, he⟩ <;>
      cases he.symm.trans h
  | vrel idx =>
    rcases vrelEffect_cases idx s with ⟨_, he⟩ | ⟨_, he⟩ <;> cases he.symm.trans h
  | vrd idx fsel =>
    rcases vrdEffect_cases idx fsel s with ⟨c, hc, he⟩ | ⟨_, he⟩
    · cases he.symm.trans h; contradiction
    · cases he.symm.trans h
  | tick =>
    rcases tickEffect_cases s with ⟨_, he⟩ | ⟨_, _, he⟩ | ⟨_, _, c, hp, he⟩ | ⟨_, _, _, _, he⟩
    · cases he.symm.trans h
    · cases he.symm.trans h
    · exact (State.startPulse_error hp).2.1
    · cases he.symm.trans h
  | rdreg rsel =>
    rcases rdregEffect_cases rsel s with ⟨c, hc, he⟩ | ⟨_, he⟩
    · cases he.symm.trans h; exact hc rfl
    · cases he.symm.trans h

end Sys2Proof.Machine

/-! The invariant of the machine: kept by each operation on the state, hence by every command, by reset and by
the host's side of a step. -/

namespace Sys2Proof.Machine

open Sys2Proof

/-! ### Valid parameters -/

/-- A valid table has a positive period for every legal pitch (R39). -/
theorem periodOf_pos {P : Params} (hP : P.Valid) {pitch : Nat} (h : pitch ≤ 127) :
    0 < (periodOf P pitch).toNat := by
  obtain ⟨_, _, hlen, hzero, _⟩ := hP
  have hlt : pitch < P.periodTable.length := by omega
  have hentry : periodOf P pitch = P.periodTable[pitch] := by simp [periodOf, List.getD, hlt]
  have hne : periodOf P pitch ≠ 0 := fun h0 => hzero (h0 ▸ hentry ▸ List.getElem_mem hlt)
  exact Nat.pos_of_ne_zero fun h0 => hne (BitVec.eq_of_toNat_eq h0)

theorem positivePeriod_ne_zero (w : Word) : Config.positivePeriod w ≠ 0 := by
  unfold Config.positivePeriod
  split
  · decide
  · assumption

/-- The parameters that the machine has after reset are in the ranges of R5, whatever the free values are. -/
theorem resetParams_valid : Config.resetParams.Valid := by
  have hslots := Config.slotsLessOne.isLt
  have htable : 0 ∉ Config.resetParams.periodTable := fun hz => by
    obtain ⟨p, _, hp⟩ := List.mem_map.mp hz
    exact positivePeriod_ne_zero _ hp
  refine ⟨Nat.le_add_left _ _, hslots, by simp [Config.resetParams], htable, ?_, ?_, ?_⟩ <;> decide

/-! ### The fault record -/

theorem withCause_zero (c : Cause) : withCause 0 c = zext32 c.code := by cases c <;> decide

theorem withMulti_withMulti (f : Word) : withMulti (withMulti f) = withMulti f := by
  simp [withMulti, BitVec.or_assoc]

theorem causeField_zext32_code (c : Cause) : causeField (zext32 c.code) = c.code := by cases c <;> decide

theorem Cause.mem_all (c : Cause) :
    c ∈ [Cause.illegalOp, .rsvdBits, .indexRange, .selRange, .pitchRange, .velRange, .unseeded] := by
  cases c <;> decide

/-- The legal records (R33, R118): an empty one, or a cause with or without `MULTI`. -/
theorem State.faultRecordGood_iff (s : State) :
    s.FaultRecordGood ↔ (s.fault = 0 ∧ s.faultCmd = 0) ∨
      ∃ c : Cause, s.fault = zext32 c.code ∨ s.fault = withMulti (zext32 c.code) := by
  simp only [State.FaultRecordGood, Cause.mem_all, true_and]

/-- The first fault since reset (R121). -/
theorem State.raise_of_empty {s : State} (h : s.fault = 0) (c : Cause) (w : Word) :
    s.raise c w = s.setFault (zext32 c.code) w := by
  have hclear : causeField s.fault = 0 := by rw [h]; rfl
  rw [State.raise, if_pos hclear, h, withCause_zero]

theorem State.raise_fault_of_recorded {s : State} (h : causeField s.fault ≠ 0) (c : Cause) (w : Word) :
    (s.raise c w).fault = withMulti s.fault := by
  rw [State.raise, if_neg h, State.setFault_fault]

/-- Recording a fault keeps the record legal: the first cause on an empty record, `MULTI` on any other (R121). -/
theorem State.raise_faultRecordGood {s : State} (h : s.FaultRecordGood) (c : Cause) (w : Word) :
    (s.raise c w).FaultRecordGood := by
  rw [State.faultRecordGood_iff] at h ⊢
  right
  rcases h with ⟨hf, _⟩ | ⟨d, hf⟩
  · exact ⟨c, .inl (by rw [State.raise_of_empty hf, State.setFault_fault])⟩
  · have hcause : causeField s.fault = d.code := by
      rcases hf with hf | hf
      · rw [hf, causeField_zext32_code]
      · rw [hf, causeField_withMulti, causeField_zext32_code]
    refine ⟨d, .inr ?_⟩
    rw [State.raise_fault_of_recorded (hcause ▸ d.code_ne_zero)]
    rcases hf with hf | hf
    · rw [hf]
    · rw [hf, withMulti_withMulti]

/-! ### One rule per operation -/

theorem Slot.emptySlot_good (P : Params) : (emptySlot P).Good P := .inl rfl

/-- The slot that a legal `VASGN` writes holds a voice (R88). -/
theorem Slot.assignedSlot_good {s : State} (hP : s.cfg.Valid) (ch : BitVec 4) {pitch vel : Byte}
    (hp : pitch.toNat ≤ 127) (hv : 1 ≤ vel.toNat ∧ vel.toNat ≤ 127) :
    (assignedSlot s ch pitch.toNat vel).Good s.cfg := by
  have hpitch : (assignedSlot s ch pitch.toNat vel).pitch = pitch := by simp [assignedSlot]
  refine .inr ⟨by rw [hpitch]; exact hp, hv.1, hv.2, by rw [hpitch]; rfl, ?_⟩
  show (s.usClk % periodOf s.cfg pitch.toNat).toNat < _
  rw [BitVec.toNat_umod]
  exact Nat.mod_lt _ (periodOf_pos hP hp)

theorem immediate_lt (us : BitVec 28) : (immediate us).toNat < 2 ^ 28 := by
  rw [immediate, zext32_toNat us (by omega)]
  exact us.isLt

/-- The interval that a pulse start schedules is its clamped period (R110). -/
theorem clampPeriod_toNat {P : Params} (hP : P.Valid) (v : Int) :
    ((BitVec.ofInt 32 (clampPeriod P v)).toNat : Int) = clampPeriod P v := by
  obtain ⟨_, _, _, _, _, hle, hmax⟩ := hP
  obtain ⟨hlo, hhi⟩ := clampPeriod_mem P hle v
  rw [BitVec.toNat_ofInt]
  omega

section
variable {s : State} (h : s.Inv)
include h

theorem State.Inv.raise (c : Cause) (w : Word) : (s.raise c w).Inv := by
  obtain ⟨hP, hvoices, hset, hacc, hent, hrec⟩ := h
  have hraised := State.raise_faultRecordGood hrec c w
  rcases s.raise_cases c w with ⟨_, hr⟩ | ⟨_, hr⟩ <;> rw [hr] at hraised ⊢ <;>
    exact ⟨hP, hvoices, hset, hacc, hent, hraised⟩

theorem State.Inv.setResult (w : Word) : (s.setResult w).Inv := h

theorem State.Inv.setGate (g : Bool) : (s.setGate g).Inv := h

theorem State.Inv.setMode (m : Mode) : (s.setMode m).Inv := h

theorem State.Inv.setBend (b : Bool) : (s.setBend b).Inv := h

theorem State.Inv.showTick (started g : Bool) : (s.showTick started g).Inv := h

theorem State.Inv.sampleClocks (us ms : Word) : (s.sampleClocks us ms).Inv := h

theorem State.Inv.returnRead (w : Word) : (s.returnRead w).Inv := h

theorem State.Inv.countCmdRead : s.countCmdRead.Inv := h

theorem State.Inv.takeTurn : s.takeTurn.Inv := by
  obtain ⟨q, c, t, ht⟩ := s.takeTurn_eq
  rw [ht]
  exact h

theorem State.Inv.setSlot (i : Nat) {v : Slot} (hv : v.Good s.cfg) : (s.setSlot i v).Inv := by
  obtain ⟨hP, ⟨hlen, hgood⟩, hrest⟩ := h
  refine ⟨hP, ⟨by simpa using hlen, fun u hu => ?_⟩, hrest⟩
  rcases List.mem_or_eq_of_mem_set hu with hu | rfl
  · exact hgood u hu
  · exact hv

theorem State.Inv.setPeriodSp {w : Word} (hw : w.toNat < 2 ^ 28) : (s.setPeriodSp w).Inv := by
  obtain ⟨hP, hvoices, ⟨_, hwidth⟩, hrest⟩ := h
  exact ⟨hP, hvoices, ⟨hw, hwidth⟩, hrest⟩

theorem State.Inv.setWidthSp {w : Word} (hw : w.toNat < 2 ^ 28) : (s.setWidthSp w).Inv := by
  obtain ⟨hP, hvoices, ⟨hperiod, _⟩, hrest⟩ := h
  exact ⟨hP, hvoices, ⟨hperiod, hw⟩, hrest⟩

theorem State.Inv.disarm : (s.setArmed false).Inv := by
  obtain ⟨hP, hvoices, hset, _, hrest⟩ := h
  exact ⟨hP, hvoices, hset, nofun, hrest⟩

theorem State.Inv.schedulePulse (base : Word) (v : Int) :
    (s.schedulePulse base (base + BitVec.ofInt 32 (clampPeriod s.cfg v))).Inv := by
  obtain ⟨hP, hvoices, hset, _, hrest⟩ := h
  refine ⟨hP, hvoices, hset, fun _ => ?_, hrest⟩
  have hinterval := clampPeriod_toNat hP v
  obtain ⟨_, _, _, _, _, hle, _⟩ := hP
  obtain ⟨hlo, hhi⟩ := clampPeriod_mem s.cfg hle v
  show s.cfg.pMin ≤ (base + BitVec.ofInt 32 (clampPeriod s.cfg v) - base).toNat ∧
    (base + BitVec.ofInt 32 (clampPeriod s.cfg v) - base).toNat ≤ s.cfg.pMax
  rw [add_sub_cancel_left]
  omega

theorem State.Inv.setPrng (x : Word) {c : BitVec 2}
    (hc : s.cfg.prngVariant = .plain ∨ s.seeded = false → c = 0) : (s.setPrng x c).Inv := by
  obtain ⟨hP, hvoices, hset, hacc, _, hrec⟩ := h
  exact ⟨hP, hvoices, hset, hacc, hc, hrec⟩

/-- A draw keeps the counter at 0 where the invariant needs it (R29, R80). -/
theorem State.Inv.setPrng_of_draw (x : Word) {c : BitVec 2} (plain : s.cfg.prngVariant = .plain → c = s.prngCnt)
    (undrawn : s.seeded = false → c = s.prngCnt) : (s.setPrng x c).Inv := by
  have ⟨_, _, _, _, hcnt, _⟩ := h
  exact h.setPrng x fun hz => (hz.elim plain undrawn).trans (hcnt hz)

theorem State.Inv.markSeeded : s.markSeeded.Inv := by
  obtain ⟨hP, hvoices, hset, hacc, hent, hrec⟩ := h
  refine ⟨hP, hvoices, hset, hacc, fun hz => hent ?_, hrec⟩
  exact .inl (hz.resolve_right nofun)

end

theorem State.resetWith_inv {P : Params} (hP : P.Valid) : (State.resetWith P).Inv := by
  refine ⟨hP, ⟨by simp, fun v hv => ?_⟩, ⟨by simp, by simp⟩, nofun, fun _ => rfl, .inl ⟨rfl, rfl⟩⟩
  rw [State.resetWith_voices] at hv
  exact List.eq_of_mem_replicate hv ▸ Slot.emptySlot_good P

theorem State.Inv.applyReset {s : State} (h : s.Inv) : s.applyReset.Inv :=
  State.resetWith_inv h.1

/-! ### Commands and steps -/

theorem Effect.inv {i : Instr} {s t : State} (he : Effect i s t) (h : s.Inv) : t.Inv := by
  have hP : s.cfg.Valid := h.1
  cases he with
  | nop => exact h
  | pinit x => exact (h.setPrng x fun _ => rfl).markSeeded
  | pnext x c w seeded plain => exact (h.setPrng_of_draw x plain (by simp [seeded])).setResult w
  | vfind w | vrd w | rdreg w => exact h.setResult w
  | vasgn legal audible => exact h.setSlot _ (Slot.assignedSlot_good hP _ legal audible)
  | vrel => exact h.setSlot _ (Slot.emptySlot_good _)
  | smode => exact ((h.setMode _).disarm).setGate false
  | sbend => exact h.setBend _
  | sper => exact h.setPeriodSp (immediate_lt _)
  | swid => exact h.setWidthSp (immediate_lt _)
  | tickGate g => exact h.showTick false g
  | tickPulse x c base v g plain undrawn =>
    have hdrawn : (s.setPrng x c).Inv := h.setPrng_of_draw x plain fun hs => (undrawn hs).2
    exact (hdrawn.schedulePulse base v).showTick true g

theorem exec_inv {i : Instr} {s t : State} (hx : exec i s = .next t) (h : s.Inv) : t.Inv := by
  rcases exec_effect hx with he | ⟨c, rfl⟩
  · exact he.inv h
  · exact h.raise c _

/-- Settles O12: the invariant is kept by the host's side of the step, by reset, by a rejected word and by every
command, from every state that satisfies it. -/
theorem stepKeepsTheInvariant : Obligations.StepKeepsTheInvariant := by
  unfold Obligations.StepKeepsTheInvariant
  intro s t h hstep
  have hturn : s.takeTurn.Inv := h.takeTurn
  rcases step_cases hstep with ⟨w, us, ms, i, _, hx⟩ | ⟨w, us, ms, e, _, rfl⟩ | ⟨_, rfl⟩ | ⟨_, rfl⟩ | rfl | rfl
  · exact exec_inv hx (hturn.sampleClocks us ms)
  · exact (hturn.sampleClocks us ms).raise _ w
  · exact hturn
  · exact hturn.applyReset
  · exact (hturn.returnRead _).countCmdRead
  · exact hturn.returnRead _

/-- Settles O11: the reset parameters are valid, and reset from valid parameters satisfies the invariant. -/
theorem resetSatisfiesTheInvariant : Obligations.ResetSatisfiesTheInvariant :=
  State.resetWith_inv resetParams_valid

end Sys2Proof.Machine

/-! What commands and steps leave unchanged: the writers of each piece of state, the parameters, the entropy word
before the first `PINIT`, and the `CONFIG` word that shows the parameters. -/

namespace Sys2Proof.Machine

open Sys2Proof

/-! ### Writers -/

/-- Settles O56: by the list of effects, and recording a fault writes the record only. -/
theorem onlyItsWritersChangeAPiece : Obligations.OnlyItsWritersChangeAPiece := by
  unfold Obligations.OnlyItsWritersChangeAPiece
  intro i s t h
  rcases exec_effect h with he | ⟨c, rfl⟩
  · cases he <;> simp
  · simp

theorem exec_cfg {i : Instr} {s t : State} (h : exec i s = .next t) : t.cfg = s.cfg := by
  have ⟨_, _, _, _, _, _, _, _, _, _, _, hcfg, _⟩ := onlyItsWritersChangeAPiece i s t h
  exact hcfg

theorem State.takeTurn_cfg (s : State) : s.takeTurn.cfg = s.cfg := by
  obtain ⟨q, c, t, ht⟩ := s.takeTurn_eq
  rw [ht]

/-- Settles O13: neither a command, nor reset, nor the host's side of a step writes the parameters. -/
theorem stepKeepsTheParameters : Obligations.StepKeepsTheParameters := by
  unfold Obligations.StepKeepsTheParameters
  intro s t hstep
  rw [← s.takeTurn_cfg]
  rcases step_cases hstep with ⟨w, us, ms, i, _, hx⟩ | ⟨w, us, ms, e, _, rfl⟩ | ⟨_, rfl⟩ | ⟨_, rfl⟩ | rfl | rfl
  · exact (exec_cfg hx :)
  · exact State.raise_cfg _ _ _
  · rfl
  · rfl
  · rfl
  · rfl

/-! ### The `CONFIG` word -/

theorem variantBit_toNat (v : PrngVariant) : (variantBit v).toNat = if v = .plain then 1 else 0 := by
  cases v <;> rfl

theorem selBit_toNat (v : PrngSel) : (selBit v).toNat = if v = .pre then 1 else 0 := by cases v <;> rfl

theorem configWord_toNat {P : Params} (hP : P.Valid) : (configWord P).toNat =
    P.slots + 2 ^ 12 * (variantBit P.prngVariant).toNat + 2 ^ 13 * (selBit P.prngSel).toNat +
      2 ^ 14 * P.pinkForcesJitter.toNat + 2 ^ 16 * P.warmup.val := by
  obtain ⟨_, hslots, _⟩ := hP
  have hwarmup := P.warmup.isLt
  unfold configWord
  simp only [append_toNat, BitVec.toNat_ofNat, BitVec.toNat_ofBool]
  omega

theorem exec_rdreg_config (s : State) : exec (.rdreg 0xD) s = .next (s.setResult (configWord s.cfg)) := rfl

/-- Settles O55: the concatenation read as arithmetic, each field below its width. -/
theorem configWordFields : Obligations.ConfigWordFields := by
  unfold Obligations.ConfigWordFields
  intro s hP
  refine ⟨configWord s.cfg, exec_rdreg_config s, ?_⟩
  rw [configWord_toNat hP, variantBit_toNat, selBit_toNat, Bool.toNat]
  cases s.cfg.pinkForcesJitter <;> rfl

/-! ### Once seeded -/

theorem Effect.seeded {i : Instr} {s t : State} (he : Effect i s t) (h : s.seeded = true) : t.seeded = true := by
  cases he <;> simp [h]

theorem Cause.code_eq_seven_iff (c : Cause) : c.code = 7 ↔ c = .unseeded := by cases c <;> decide

/-- Settles O30: no effect writes `SEEDED <- 0` or the record, and the cause of a new fault is `UNSEEDED` only
before the first `PINIT`. -/
theorem seededMachineNeverLacksEntropy : Obligations.SeededMachineNeverLacksEntropy := by
  unfold Obligations.SeededMachineNeverLacksEntropy
  intro i s t hs h
  rcases exec_cases h with hok | ⟨c, herr, rfl⟩
  · obtain ⟨hfault, _⟩ := effectOf_record hok
    exact ⟨(effectOf_ok hok).seeded hs, fun h7 => hfault ▸ h7⟩
  · refine ⟨by simpa using hs, fun h7 => ?_⟩
    rw [State.raise_causeField] at h7
    split at h7
    · have hc : c = .unseeded := c.code_eq_seven_iff.mp h7
      have hun : s.seeded = false := effectOf_unseeded (hc ▸ herr)
      simp [hs] at hun
    · exact h7

/-! ### Before the first `PINIT` -/

/-- `PRNG_X` holds `x`, all else as it is. -/
def State.setEntropyWord (s : State) (x : Word) : State := s.setPrng x s.prngCnt

theorem State.draw_of_unseeded {s : State} (h : s.seeded = false) : s.draw = .error .unseeded := by
  simp [State.draw, h]

@[simp] theorem State.setEntropyWord_usClk (s : State) (x : Word) : (s.setEntropyWord x).usClk = s.usClk := rfl

theorem State.index_setEntropyWord (s : State) (idx : Byte) (x : Word) :
    (s.setEntropyWord x).index idx = s.index idx := rfl

theorem State.complete_setEntropyWord (s : State) (x w : Word) (r : Except Cause State) :
    (s.setEntropyWord x).complete w (r.map (State.setEntropyWord · x)) = (s.complete w r).setEntropyWord x := by
  cases r with
  | ok t => rfl
  | error c =>
    show (s.setEntropyWord x).raise c w = (s.raise c w).setEntropyWord x
    unfold State.raise
    rw [show (s.setEntropyWord x).fault = s.fault from rfl]
    split <;> rfl

section
variable {s : State} (h : s.seeded = false) (x : Word)
include h

theorem State.effPeriod_setEntropyWord :
    (s.setEntropyWord x).effPeriod = s.effPeriod.map fun pt => (pt.1, pt.2.setEntropyWord x) := by
  have hd : (s.setEntropyWord x).draw = .error .unseeded := State.draw_of_unseeded h
  unfold State.effPeriod
  rw [hd, State.draw_of_unseeded h, show (s.setEntropyWord x).jitterOn = s.jitterOn from rfl]
  split <;> rfl

theorem State.startPulse_setEntropyWord (t : Word) :
    (s.setEntropyWord x).startPulse t = (s.startPulse t).map (State.setEntropyWord · x) := by
  unfold State.startPulse
  rw [State.effPeriod_setEntropyWord h]
  cases s.effPeriod <;> rfl

theorem tickEffect_setEntropyWord :
    tickEffect (s.setEntropyWord x) = (tickEffect s).map (State.setEntropyWord · x) := by
  cases hm : isFrequency s.mode with
  | false => rw [tickEffect_of_midi hm, tickEffect_of_midi (s := s.setEntropyWord x) hm]; rfl
  | true =>
    cases hd : s.pulseDue s.usClk with
    | false => rw [tickEffect_of_early hm hd, tickEffect_of_early (s := s.setEntropyWord x) hm hd]; rfl
    | true =>
      rw [tickEffect_of_due hm hd, tickEffect_of_due (s := s.setEntropyWord x) hm hd,
        State.setEntropyWord_usClk, State.startPulse_setEntropyWord h]
      cases s.startPulse s.usClk <;> rfl

theorem State.register_setEntropyWord (r : RegName) : (s.setEntropyWord x).register r = s.register r := by
  have hx : (s.setEntropyWord x).register .prngX = s.register .prngX := by
    simp [State.register, h, State.setEntropyWord]
  cases r with
  | prngX => exact hx
  | _ => rfl

/-- Before the first `PINIT` no command but it depends on `PRNG_X` (R28, R82, R115). -/
theorem effectOf_setEntropyWord {i : Instr} (hi : i ≠ .pinit) :
    effectOf i (s.setEntropyWord x) = (effectOf i s).map (State.setEntropyWord · x) := by
  cases i with
  | pinit => contradiction
  | nop | vfind | smode | sbend | sper | swid => rfl
  | pnext =>
    show pnextEffect _ = (pnextEffect s).map _
    unfold pnextEffect
    rw [State.draw_of_unseeded h, State.draw_of_unseeded (s := s.setEntropyWord x) h]
    rfl
  | vasgn idx ch pitch vel =>
    show vasgnEffect idx ch pitch vel _ = (vasgnEffect idx ch pitch vel s).map _
    unfold vasgnEffect
    rw [State.index_setEntropyWord]
    cases s.index idx <;> [rfl; cases pitchOperand pitch <;> [rfl; cases velocityOperand vel <;> rfl]]
  | vrel idx =>
    show vrelEffect idx _ = (vrelEffect idx s).map _
    unfold vrelEffect
    rw [State.index_setEntropyWord]
    cases s.index idx <;> rfl
  | vrd idx fsel =>
    show vrdEffect idx fsel _ = (vrdEffect idx fsel s).map _
    unfold vrdEffect
    rw [State.index_setEntropyWord]
    cases s.index idx <;> [rfl; cases fieldOf fsel <;> rfl]
  | tick => exact tickEffect_setEntropyWord h x
  | rdreg rsel =>
    show rdregEffect rsel _ = (rdregEffect rsel s).map _
    unfold rdregEffect
    cases registerOf rsel with
    | error c => rfl
    | ok r =>
      simp only [State.register_setEntropyWord h x r]
      cases s.register r <;> rfl

theorem exec_setEntropyWord {i : Instr} (hi : i ≠ .pinit) {t : State} (hx : exec i s = .next t) :
    exec i (s.setEntropyWord x) = .next (t.setEntropyWord x) := by
  rw [exec_eq_complete] at hx ⊢
  injection hx with hx
  rw [effectOf_setEntropyWord h x hi, State.complete_setEntropyWord, hx]

end

theorem exec_pinit_setEntropyWord (s : State) (x : Word) : exec .pinit (s.setEntropyWord x) = exec .pinit s := rfl

theorem Effect.unseeded {i : Instr} {s t : State} (he : Effect i s t) (h : s.seeded = false) (hi : i ≠ .pinit) :
    t.seeded = false ∧ t.prngX = s.prngX := by
  cases he with
  | pinit => contradiction
  | pnext x c w seeded => simp [h] at seeded
  | tickPulse x c base v g plain undrawn =>
    obtain ⟨hx, _⟩ := undrawn h
    exact ⟨h, hx⟩
  | _ => exact ⟨h, rfl⟩

/-- Settles O29: without a seed every draw and every read of `PRNG_X` faults, so an effect commutes with replacing
the word; `PINIT` overwrites it. -/
theorem unseededEntropyWordIsInvisible : Obligations.UnseededEntropyWordIsInvisible := by
  unfold Obligations.UnseededEntropyWordIsInvisible
  intro i s t x hs h
  by_cases hi : i = .pinit
  · subst hi
    exact .inr ⟨rfl, (exec_pinit_setEntropyWord s x).trans h⟩
  · have hkept : t.seeded = false ∧ t.prngX = s.prngX := by
      rcases exec_effect h with he | ⟨c, rfl⟩
      · exact he.unseeded hs hi
      · simp [hs]
    exact .inl ⟨hkept.1, hkept.2, exec_setEntropyWord hs x hi h⟩

end Sys2Proof.Machine

/-! The host's side of a step: whose turn it is, and what that actor's access makes of the step. -/

namespace Sys2Proof.Machine

open Sys2Proof

theorem agentEvent_of_nextIs {q : HostSeq} {a : HostAccess} {rest : List HostAccess} (h : q.NextIs a rest) :
    agentEvent q = .access a := by
  simp [agentEvent, HostSeq.access, show q.pending = a :: rest from h]

theorem HostSeq.advance_of_nextIs {q : HostSeq} {a : HostAccess} {rest : List HostAccess} (h : q.NextIs a rest) :
    q.advance = ⟨q.issued + 1, rest⟩ := by
  simp [HostSeq.advance, show q.pending = a :: rest from h]

section
variable {s : State} {a : HostAccess} {rest : List HostAccess} {turns : List Actor}

theorem State.portEvent_control (hs : s.schedule = .control :: turns) (hn : s.control.NextIs a rest) :
    s.portEvent = .access a := by
  simp only [State.portEvent, hs, agentEvent_of_nextIs hn]

theorem State.portEvent_timing (hs : s.schedule = .timing :: turns) (hn : s.timing.NextIs a rest) :
    s.portEvent = .access a := by
  simp only [State.portEvent, hs, agentEvent_of_nextIs hn]

theorem State.portEvent_reset (hs : s.schedule = .reset :: turns) : s.portEvent = .reset := by
  simp only [State.portEvent, hs]

theorem State.takeTurn_control (hs : s.schedule = .control :: turns) (hn : s.control.NextIs a rest) :
    s.takeTurn = { s with schedule := turns, control := ⟨s.control.issued + 1, rest⟩ } := by
  simp only [State.takeTurn, hs, HostSeq.advance_of_nextIs hn]

theorem State.takeTurn_timing (hs : s.schedule = .timing :: turns) (hn : s.timing.NextIs a rest) :
    s.takeTurn = { s with schedule := turns, timing := ⟨s.timing.issued + 1, rest⟩ } := by
  simp only [State.takeTurn, hs, HostSeq.advance_of_nextIs hn]

theorem State.takeTurn_reset (hs : s.schedule = .reset :: turns) : s.takeTurn = { s with schedule := turns } := by
  simp only [State.takeTurn, hs]

end

/-- A step in which an agent writes a command's word to `CMD` executes the command in the state after the turn, at
the clock levels of the access (R34, R69). -/
theorem step_of_commandWrite {s : State} {w us ms : Word} {i : Instr}
    (he : s.portEvent = .access (commandWrite w us ms)) (hd : decode w = .ok i) :
    step s = exec i (s.takeTurn.sampleClocks us ms) := by
  have hr : (commandWrite w us ms).request = .command w us ms := rfl
  simp only [step, State.fetch, he, hr, State.fetchCommand, hd]

/-- Settles O5: for either agent, by what its turn changes. -/
theorem stepRunsTheDecodedCommand : Obligations.StepRunsTheDecodedCommand := by
  unfold Obligations.StepRunsTheDecodedCommand
  intro s w us ms i rest turns hd
  constructor
  · intro hs hn
    rw [step_of_commandWrite (State.portEvent_control hs hn) hd, State.takeTurn_control hs hn]
    rfl
  · intro hs hn
    rw [step_of_commandWrite (State.portEvent_timing hs hn) hd, State.takeTurn_timing hs hn]
    rfl

theorem emptySlot_of_periodIs {P : Params} {p : Word} (hp : PeriodIs P 0 p) : emptySlot P = ⟨0, 255, 0, p, 0, 0⟩ := by
  have hperiod : periodOf P 0 = p := by simp [periodOf, List.getD, show P.periodTable[0]? = some p from hp]
  rw [emptySlot, hperiod, emptyPitch]

/-- A read of `PRNG_X` before the first `PINIT` records `UNSEEDED` (R115). -/
theorem exec_rdreg_prngX_unseeded {s : State} (h : s.seeded = false) :
    exec (.rdreg 4) s = .next (s.raise .unseeded 0xC0000004) := by
  have he : effectOf (.rdreg 4) s = .error .unseeded := by
    show rdregEffect 4 s = _
    simp [rdregEffect, registerOf, State.register, h]
  rw [exec_eq_complete, he]
  rfl

/-- Settles O8: by the values that a reset leaves. -/
theorem resetRestoresEveryValue : Obligations.ResetRestoresEveryValue := by
  unfold Obligations.ResetRestoresEveryValue
  intro s turns p hs hp
  refine ⟨s.takeTurn.applyReset, step_reset (State.portEvent_reset hs), ?_, rfl, rfl, rfl, rfl, rfl, rfl, rfl, rfl,
    rfl, rfl, rfl, rfl, rfl, ?_⟩
  · rw [State.applyReset_voices, State.takeTurn_cfg, emptySlot_of_periodIs hp]
  · rw [exec_rdreg_prngX_unseeded (State.applyReset_seeded _), State.raise_of_empty (State.applyReset_fault _)]
    rfl

end Sys2Proof.Machine

/-! Accesses to the ports that run no command (a read, an access without a step), the command word that the host
offers, and the commands that may be repeated. -/

namespace Sys2Proof.Machine

open Sys2Proof

/-! ### What an access asks, and the step it makes -/

theorem HostAccess.request_of_not_port {a : HostAccess} (h : a.size ≠ .word ∨ (a.offset ≠ 0 ∧ a.offset ≠ 4)) :
    a.request = .noStep .unalignedPortAccess := by
  unfold HostAccess.request
  cases hsize : a.size with
  | byte | half => rfl
  | word =>
    obtain ⟨h0, h4⟩ : a.offset ≠ 0 ∧ a.offset ≠ 4 := h.resolve_left (not_not_intro hsize)
    dsimp only
    split
    · next hv => exact absurd (Fin.ext hv) h0
    · next hv => exact absurd (Fin.ext hv) h4
    · rfl

theorem HostAccess.request_of_resultWrite {a : HostAccess} (hsize : a.size = .word) (hoffset : a.offset = 4)
    (hkind : a.kind ≠ .read) : a.request = .noStep .resultPortWrite := by
  cases hk : a.kind with
  | read => exact absurd hk hkind
  | write w us ms => simp [HostAccess.request, hsize, hoffset, hk]

theorem step_of_noStep {s : State} {a : HostAccess} {f : Fault} (he : s.portEvent = .access a)
    (hr : a.request = .noStep f) : step s = .fault f := by
  simp only [step, State.fetch, he, hr]

theorem step_of_resultRead {s : State} (he : s.portEvent = .access ⟨4, .word, .read⟩) :
    step s = .next (s.takeTurn.returnRead s.result) := by
  have hr : HostAccess.request ⟨4, .word, .read⟩ = .readResult := rfl
  simp only [step, State.fetch, he, hr]

/-- The value that a read of `CMD` returns is a free draw (R49, log 6). -/
theorem step_of_cmdRead {s : State} (he : s.portEvent = .access ⟨0, .word, .read⟩) :
    step s = .next (s.takeTurn.returnRead (Config.cmdRead s.cmdReads)).countCmdRead := by
  have hr : HostAccess.request ⟨0, .word, .read⟩ = .readCmd := rfl
  simp only [step, State.fetch, he, hr]

/-- Settles O14: whichever agent moves, what its access asks decides the fault. -/
theorem misusedPortHasNoStep : Obligations.MisusedPortHasNoStep := by
  unfold Obligations.MisusedPortHasNoStep
  intro s a rest turns hturn
  have he : s.portEvent = .access a := by
    rcases hturn with ⟨hs, hn⟩ | ⟨hs, hn⟩
    · exact State.portEvent_control hs hn
    · exact State.portEvent_timing hs hn
  exact ⟨fun h => step_of_noStep he (HostAccess.request_of_not_port h),
    fun ⟨hsize, hoffset, hkind⟩ => step_of_noStep he (HostAccess.request_of_resultWrite hsize hoffset hkind)⟩

/-- Settles O15: for either port and either agent, by what the turn changes. -/
theorem portReadsHaveNoSideEffect : Obligations.PortReadsHaveNoSideEffect := by
  unfold Obligations.PortReadsHaveNoSideEffect
  intro s rest turns
  refine ⟨fun hs hn => ?_, fun hs hn => ?_, fun hs hn => ⟨Config.cmdRead s.cmdReads, ?_⟩,
    fun hs hn => ⟨Config.cmdRead s.cmdReads, ?_⟩⟩
  · rw [step_of_resultRead (State.portEvent_control hs hn), State.takeTurn_control hs hn]; rfl
  · rw [step_of_resultRead (State.portEvent_timing hs hn), State.takeTurn_timing hs hn]; rfl
  · rw [step_of_cmdRead (State.portEvent_control hs hn), State.takeTurn_control hs hn]; rfl
  · rw [step_of_cmdRead (State.portEvent_timing hs hn), State.takeTurn_timing hs hn]; rfl

/-! ### The offered word -/

theorem decode_of_decodeTableWord {n w : Nat} {i : Instr} (h : decodeTableWord n w = some i) :
    decode (BitVec.ofNat 32 (w % 2 ^ n)) = .ok i := by
  unfold decodeTableWord at h
  split at h
  · split at h
    · next hd => cases h; exact hd
    · cases h
  · cases h

theorem State.portEvent_offerCommand (s : State) (w : Word) :
    (s.offerCommand w).portEvent = .access (commandWrite w s.usClk s.msClk) := rfl

/-- The turn that makes the offered access takes the offer away again, and counts the access (R37). -/
theorem State.takeTurn_offerCommand (s : State) (w : Word) :
    (s.offerCommand w).takeTurn = { s with control := { s.control with issued := s.control.issued + 1 } } := rfl

/-- Settles O7: the offered write is the next access, and it repeats the clock levels that stand. -/
theorem offeredWordIsExecutedNext : Obligations.OfferedWordIsExecutedNext := by
  unfold Obligations.OfferedWordIsExecutedNext
  intro s w i hw
  rw [State.withFetchWord, step_of_commandWrite (s.portEvent_offerCommand _) (decode_of_decodeTableWord hw),
    State.takeTurn_offerCommand]
  rfl

/-! ### Repeating a command -/

/-- A fault that leaves the `FAULT` word as it was is one after `MULTI` was set, which leaves the whole state. -/
theorem State.raise_eq_self {s : State} {c : Cause} {w : Word} (h : (s.raise c w).fault = s.fault) :
    s.raise c w = s := by
  rcases s.raise_cases c w with ⟨hclear, hr⟩ | ⟨_, hr⟩ <;> rw [hr] at h ⊢
  · have hkept : withCause s.fault c = s.fault := h
    have hcode : c.code = 0 := by rw [← causeField_withCause s.fault c, hkept, hclear]
    exact absurd hcode c.code_ne_zero
  · have hkept : withMulti s.fault = s.fault := h
    rw [hkept]; rfl

theorem State.setSlot_setSlot (s : State) (i : Nat) (v v' : Slot) : (s.setSlot i v).setSlot i v' = s.setSlot i v' := by
  simp [State.setSlot]

theorem vrelEffect_setSlot (idx : Byte) (s : State) (v : Slot) :
    vrelEffect idx (s.setSlot idx.toNat v) = vrelEffect idx s := by
  have hindex : (s.setSlot idx.toNat v).index idx = s.index idx := rfl
  rcases s.index_cases idx with ⟨_, he⟩ | ⟨_, he⟩ <;>
    simp only [vrelEffect, hindex, he, State.setSlot_cfg, State.setSlot_setSlot]

/-! A read does not look at `RESULT`, which it overwrites. -/

theorem vfindEffect_setResult (s : State) (w : Word) : vfindEffect (s.setResult w) = vfindEffect s := rfl

theorem vrdEffect_setResult (idx : Byte) (fsel : BitVec 3) (s : State) (w : Word) :
    vrdEffect idx fsel (s.setResult w) = vrdEffect idx fsel s := rfl

theorem rdregEffect_setResult (rsel : BitVec 4) (s : State) (w : Word) :
    rdregEffect rsel (s.setResult w) = rdregEffect rsel s := rfl

/-- The commands of R56: a read overwrites only what it does not read, a setting overwrites what it set. -/
theorem effectOf_idempotent {i : Instr} {s t : State} (hpinit : i ≠ .pinit) (hpnext : i ≠ .pnext)
    (htick : i ≠ .tick) (hvasgn : ∀ idx ch pitch vel, i ≠ .vasgn idx ch pitch vel) (h : effectOf i s = .ok t) :
    effectOf i t = .ok t := by
  cases effectOf_ok h with
  | nop | smode | sbend | sper | swid => rfl
  | vfind w => exact (vfindEffect_setResult s w).trans h
  | vrd w => exact (vrdEffect_setResult _ _ s w).trans h
  | rdreg w => exact (rdregEffect_setResult _ s w).trans h
  | vrel => exact (vrelEffect_setSlot _ s _).trans h
  | pinit | pnext | tickGate | tickPulse => contradiction
  | vasgn => exact absurd rfl (hvasgn _ _ _ _)

/-- Settles O58: a repeated effect is the same effect, and a fault that changes no `FAULT` word changes nothing. -/
theorem readingAndSettingAreIdempotent : Obligations.ReadingAndSettingAreIdempotent := by
  unfold Obligations.ReadingAndSettingAreIdempotent
  intro i s t hpinit hpnext htick hvasgn hx hfault
  rcases exec_cases hx with hok | ⟨c, _, rfl⟩
  · rw [exec_eq_complete, effectOf_idempotent hpinit hpnext htick hvasgn hok, State.complete_ok]
  · rw [State.raise_eq_self hfault] at hx ⊢
    exact hx

end Sys2Proof.Machine

/-! The decoder and the encoder as inverses: which words a row of the opcode map accepts, as a number, and what the
encoder makes of the operands read from such a word. -/

namespace Sys2Proof

open Machine

/-! ### Operand fields as numbers -/

theorem field_eq_of_toNat {w : Word} {lo n : Nat} {v : BitVec n} (h : w.toNat / 2 ^ lo % 2 ^ n = v.toNat) :
    w.extractLsb' lo n = v :=
  BitVec.eq_of_toNat_eq ((field_toNat w lo n).trans h)

theorem lowField_toNat (w : Word) (n : Nat) : (w.extractLsb' 0 n).toNat = w.toNat % 2 ^ n := by
  rw [field_toNat, Nat.pow_zero, Nat.div_one]

theorem lowBit_toNat (w : Word) : (w.getLsbD 0).toNat = w.toNat % 2 := by
  rw [BitVec.getLsbD, Nat.toNat_testBit, Nat.pow_zero, Nat.div_one]

theorem Mode.code_ofCode (c : BitVec 2) : (Mode.ofCode c).code = c := by revert c; decide

/-- The mode of a 2-bit field, by the number it holds (R24). -/
theorem Mode.ofCode_field (w : Word) : Mode.ofCode (w.extractLsb' 0 2) =
    if w.toNat % 4 = 0 then .midiUsb else if w.toNat % 4 = 1 then .midiJack
      else if w.toNat % 4 = 2 then .fixed else .pink := by
  have hfield : (w.extractLsb' 0 2).toNat = w.toNat % 4 := lowField_toNat w 2
  have hlt : w.toNat % 4 < 4 := Nat.mod_lt _ (by decide)
  unfold Mode.ofCode
  rw [hfield]
  generalize w.toNat % 4 = n at hlt
  match n, hlt with
  | 0, _ | 1, _ | 2, _ | 3, _ => rfl

/-! ### The rows of the opcode map -/

/-- The number of operand bits of a row's format, which fill the word from bit 0 (R59 to R66). -/
def Opcode.operandBits : Opcode → Nat
  | .nop | .pinit | .pnext | .vfind | .tick => 0
  | .vasgn | .sper | .swid => 28
  | .vrel => 8
  | .vrd => 11
  | .smode => 2
  | .sbend => 1
  | .rdreg => 4

/-- The reserved bits of a row's format: those between its operands and `OP` (R68). -/
def Opcode.reserved (op : Opcode) : Word := BitVec.ofNat 32 (2 ^ 28 - 2 ^ op.operandBits)

theorem Opcode.operandBits_le (op : Opcode) : op.operandBits ≤ 28 := by cases op <;> decide

theorem Opcode.mask_eq (op : Opcode) : op.mask = 0xF0000000 ||| op.reserved := by cases op <;> rfl

theorem Opcode.reserved_and_opMask (op : Opcode) : op.reserved &&& 0xF0000000 = 0 := by cases op <;> rfl

theorem Opcode.matchBits_eq (op : Opcode) : op.matchBits = op.nibble ++ 0#28 := by cases op <;> rfl

theorem Opcode.reserved_toNat (op : Opcode) :
    op.reserved.toNat = (2 ^ (28 - op.operandBits) - 1) * 2 ^ op.operandBits := by cases op <;> rfl

theorem Opcode.ofNibble_eq_none_iff (n : BitVec 4) : Opcode.ofNibble n = none ↔ 13 ≤ n.toNat := by
  revert n; decide

theorem Opcode.ofNibble_eq_some_iff (n : BitVec 4) (op : Opcode) : Opcode.ofNibble n = some op ↔ n = op.nibble := by
  constructor
  · cases op <;> revert n <;> decide
  · rintro rfl; exact op.ofNibble_nibble

theorem decode_eq_illegalOp_iff (w : Word) : decode w = .error .illegalOp ↔ 0xD ≤ w.toNat / 2 ^ 28 := by
  rw [← opField_toNat, ← Opcode.ofNibble_eq_none_iff]
  unfold decode
  cases Opcode.ofNibble (opField w) with
  | none => simp
  | some op => by_cases hm : w &&& op.mask = op.matchBits <;> simp [hm]

theorem decodesAs_opcode (op : Opcode) : DecodesAs op.nibble.toNat op.reserved op.operands :=
  decodesAs_row op op.reserved op.operands op.mask_eq op.reserved_and_opMask op.matchBits_eq fun _ => rfl

theorem Machine.DecodesAs.congr {n : Nat} {r : Word} {f g : Word → Instr} (h : DecodesAs n r f) (hfg : ∀ w, f w = g w) :
    DecodesAs n r g := funext hfg ▸ h

/-! ### The accepted words -/

/-- The word is one of the row's: its `OP`, zeros, and the operand bits. -/
def Opcode.Accepts (op : Opcode) (w : Word) : Prop :=
  w.toNat = op.nibble.toNat * 2 ^ 28 + w.toNat % 2 ^ op.operandBits

theorem Opcode.accepts_iff (op : Opcode) (w : Word) :
    op.Accepts w ↔ w.toNat / 2 ^ 28 = op.nibble.toNat ∧ w &&& op.reserved = 0 := by
  rw [and_mask_eq_zero_iff w op.reserved op.operandBits (28 - op.operandBits) op.reserved_toNat]
  unfold Opcode.Accepts
  generalize op.nibble.toNat = n
  cases op <;> simp only [Opcode.operandBits] <;> omega

theorem decode_of_accepts {op : Opcode} {w : Word} (h : op.Accepts w) : decode w = .ok (op.operands w) := by
  obtain ⟨hop, hreserved⟩ := (op.accepts_iff w).mp h
  rw [decodesAs_opcode op w hop, if_pos hreserved]

theorem accepts_of_decode {w : Word} {i : Instr} (h : decode w = .ok i) :
    ∃ op : Opcode, op.Accepts w ∧ op.operands w = i := by
  cases hop : Opcode.ofNibble (opField w) with
  | none => simp [decode, hop] at h
  | some op =>
    have hnibble : w.toNat / 2 ^ 28 = op.nibble.toNat := by
      rw [← opField_toNat, (Opcode.ofNibble_eq_some_iff _ op).mp hop]
    rw [decodesAs_opcode op w hnibble] at h
    split at h
    · next hreserved => exact ⟨op, (op.accepts_iff w).mpr ⟨hnibble, hreserved⟩, Except.ok.inj h⟩
    · cases h

/-! ### Decoding an encoding -/

theorem Opcode.accepts_of_toNat {op : Opcode} {w : Word} {v : Nat} (hw : w.toNat = op.nibble.toNat * 2 ^ 28 + v)
    (hv : v < 2 ^ op.operandBits) : op.Accepts w := by
  obtain ⟨c, hc⟩ : 2 ^ op.operandBits ∣ 2 ^ 28 := Nat.pow_dvd_pow 2 op.operandBits_le
  have hmod : w.toNat % 2 ^ op.operandBits = v := by
    rw [hw, hc, Nat.mul_left_comm, Nat.mul_add_mod, Nat.mod_eq_of_lt hv]
  rw [Opcode.Accepts, hmod, hw]

theorem encode_accepts (i : Instr) : i.opcode.Accepts (encode i) := by
  cases i with
  | nop | pinit | pnext | vfind | tick => rfl
  | vasgn idx ch pitch vel =>
    have hw : (encode (.vasgn idx ch pitch vel)).toNat =
        4 * 2 ^ 28 + (ch.toNat * 2 ^ 24 + pitch.toNat * 2 ^ 16 + vel.toNat * 2 ^ 8 + idx.toNat) := by
      rw [encode_vasgn_toNat]; omega
    exact Opcode.accepts_of_toNat hw (show _ < 2 ^ 28 by omega)
  | vrel idx => exact Opcode.accepts_of_toNat (encode_vrel_toNat idx) idx.isLt
  | vrd idx fsel =>
    have hw := encode_vrd_toNat idx fsel
    rw [Nat.add_assoc] at hw
    exact Opcode.accepts_of_toNat hw (show _ < 2 ^ 11 by omega)
  | smode m => exact Opcode.accepts_of_toNat (encode_smode_toNat m) m.code.isLt
  | sbend b => exact Opcode.accepts_of_toNat (encode_sbend_toNat b) b.toNat_lt
  | sper us => exact Opcode.accepts_of_toNat (encode_sper_toNat us) us.isLt
  | swid us => exact Opcode.accepts_of_toNat (encode_swid_toNat us) us.isLt
  | rdreg rsel => exact Opcode.accepts_of_toNat (encode_rdreg_toNat rsel) rsel.isLt

/-- Every operand field stands where the decoder reads it (R59 to R67). -/
theorem operands_encode (i : Instr) : i.opcode.operands (encode i) = i := by
  cases i with
  | nop | pinit | pnext | vfind | tick => rfl
  | smode m => cases m <;> rfl
  | sbend b => cases b <;> rfl
  | vasgn idx ch pitch vel =>
    have hw := encode_vasgn_toNat idx ch pitch vel
    have hidx : (encode (.vasgn idx ch pitch vel)).extractLsb' 0 8 = idx := field_eq_of_toNat (by omega)
    have hch : (encode (.vasgn idx ch pitch vel)).extractLsb' 24 4 = ch := field_eq_of_toNat (by omega)
    have hpitch : (encode (.vasgn idx ch pitch vel)).extractLsb' 16 8 = pitch := field_eq_of_toNat (by omega)
    have hvel : (encode (.vasgn idx ch pitch vel)).extractLsb' 8 8 = vel := field_eq_of_toNat (by omega)
    simp only [Instr.opcode, Opcode.operands, hidx, hch, hpitch, hvel]
  | vrel idx => exact congrArg Instr.vrel (field_eq_of_toNat (by rw [encode_vrel_toNat]; omega))
  | vrd idx fsel =>
    have hw := encode_vrd_toNat idx fsel
    exact congrArg₂ Instr.vrd (field_eq_of_toNat (by omega)) (field_eq_of_toNat (by omega))
  | sper us => exact congrArg Instr.sper (field_eq_of_toNat (by rw [encode_sper_toNat]; omega))
  | swid us => exact congrArg Instr.swid (field_eq_of_toNat (by rw [encode_swid_toNat]; omega))
  | rdreg rsel => exact congrArg Instr.rdreg (field_eq_of_toNat (by rw [encode_rdreg_toNat]; omega))

theorem decode_encode (i : Instr) : decode (encode i) = .ok i := by
  rw [decode_of_accepts (encode_accepts i), operands_encode]

/-! ### Encoding what was decoded -/

/-- The operands read from a row's word make that word again: the formats leave no bit but the reserved ones unread. -/
theorem encode_operands {op : Opcode} {w : Word} (h : op.Accepts w) : encode (op.operands w) = w := by
  apply BitVec.eq_of_toNat_eq
  cases op with
  | nop | pinit | pnext | vfind | tick => exact (h.trans (congrArg (_ + ·) (Nat.mod_one _))).symm
  | vasgn =>
    have hw : w.toNat = 4 * 2 ^ 28 + w.toNat % 2 ^ 28 := h
    simp only [Opcode.operands, encode_vasgn_toNat, field_toNat]
    omega
  | vrel =>
    rw [Opcode.operands, encode_vrel_toNat, lowField_toNat]
    exact h.symm
  | vrd =>
    have hw : w.toNat = 6 * 2 ^ 28 + w.toNat % 2 ^ 11 := h
    simp only [Opcode.operands, encode_vrd_toNat, field_toNat]
    omega
  | smode =>
    rw [Opcode.operands, encode_smode_toNat, Mode.code_ofCode, lowField_toNat]
    exact h.symm
  | sbend =>
    rw [Opcode.operands, encode_sbend_toNat, lowBit_toNat]
    exact h.symm
  | sper =>
    rw [Opcode.operands, encode_sper_toNat, lowField_toNat]
    exact h.symm
  | swid =>
    rw [Opcode.operands, encode_swid_toNat, lowField_toNat]
    exact h.symm
  | rdreg =>
    rw [Opcode.operands, encode_rdreg_toNat, lowField_toNat]
    exact h.symm

/-- Settles O1: an encoding is a word of its command's row, and every operand is read where it was written. -/
theorem decodeOfEncodeIsTheCommand : Obligations.DecodeOfEncodeIsTheCommand := by
  unfold Obligations.DecodeOfEncodeIsTheCommand
  exact decode_encode

/-- Settles O2: an accepted word is one of its row's, which has no bit beside `OP`, zeros and operands. -/
theorem acceptedWordIsItsEncoding : Obligations.AcceptedWordIsItsEncoding := by
  unfold Obligations.AcceptedWordIsItsEncoding
  intro w i h
  obtain ⟨op, haccepts, rfl⟩ := accepts_of_decode h
  exact encode_operands haccepts

/-- Settles O3: row by row, with the row's operands read as arithmetic. -/
theorem decodeFollowsTheOpcodeMap : Obligations.DecodeFollowsTheOpcodeMap := by
  unfold Obligations.DecodeFollowsTheOpcodeMap
  refine ⟨decodesAs_opcode .nop, decodesAs_opcode .pinit, decodesAs_opcode .pnext, decodesAs_opcode .vfind,
    (decodesAs_opcode .vasgn).congr fun w => ?_, decodesAs_opcode .vrel, (decodesAs_opcode .vrd).congr fun w => ?_,
    (decodesAs_opcode .smode).congr fun w => congrArg Instr.smode (Mode.ofCode_field w),
    (decodesAs_opcode .sbend).congr fun w => congrArg Instr.sbend (Nat.testBit_zero w.toNat),
    decodesAs_opcode .sper, decodesAs_opcode .swid, decodesAs_opcode .tick, decodesAs_opcode .rdreg,
    decode_eq_illegalOp_iff⟩
  · simp only [Opcode.operands, field_eq_ofNat, Nat.pow_zero, Nat.div_one]
  · simp only [Opcode.operands, field_eq_ofNat, Nat.pow_zero, Nat.div_one]

/-- Settles O4: by running the decoder on each word. -/
theorem specWordsDecode : Obligations.SpecWordsDecode := by
  unfold Obligations.SpecWordsDecode
  exact ⟨rfl, rfl, rfl, rfl, rfl, rfl, rfl, rfl, rfl, rfl⟩

end Sys2Proof

/-! A step on a word that is no command, and the assembler's pseudo-instructions. -/

namespace Sys2Proof.Machine

open Sys2Proof

/-- A step in which an agent writes a word that is no command to `CMD` records the decode fault in the state after
the turn, at the clock levels of the access (R69, R121). -/
theorem step_of_rejectedWrite {s : State} {w us ms : Word} {e : DecodeError}
    (he : s.portEvent = .access (commandWrite w us ms)) (hd : decode w = .error e) :
    step s = .next ((s.takeTurn.sampleClocks us ms).raise (causeOf e) w) := by
  have hr : (commandWrite w us ms).request = .command w us ms := rfl
  simp only [step, State.fetch, he, hr, State.fetchCommand, hd]

theorem causeOf_eq_ite (e : DecodeError) : causeOf e = if e = .illegalOp then .illegalOp else .rsvdBits := by
  cases e <;> rfl

/-- Settles O6: for either agent, by what its turn changes. -/
theorem stepRecordsARejectedWord : Obligations.StepRecordsARejectedWord := by
  unfold Obligations.StepRecordsARejectedWord
  intro s w us ms e rest turns hd
  rw [← causeOf_eq_ite]
  constructor
  · intro hs hn
    rw [step_of_rejectedWrite (State.portEvent_control hs hn) hd, State.takeTurn_control hs hn]
    rfl
  · intro hs hn
    rw [step_of_rejectedWrite (State.portEvent_timing hs hn) hd, State.takeTurn_timing hs hn]
    rfl

/-- Settles O59: by running the assembler on each line. -/
theorem pseudoInstructionsAreCoreWords : Obligations.PseudoInstructionsAreCoreWords := by
  unfold Obligations.PseudoInstructionsAreCoreWords
  exact ⟨rfl, rfl, rfl⟩

end Sys2Proof.Machine

/-! The arithmetic of the entropy word: `Permute` as a bijection, with its fixed point, and a byte of a word as a
number. -/

namespace Sys2Proof.Machine

open Sys2Proof

/-! ### `Permute` -/

/-- XORing a word with a linear image of itself loses nothing where iterating that map ends in 0: two words with the
same result differ by a fixed point of the map, and 0 is its only one. -/
theorem xor_map_injective {w n : Nat} {f : BitVec w → BitVec w} (linear : ∀ x y, f (x ^^^ y) = f x ^^^ f y)
    (nilpotent : ∀ x, f^[n] x = 0#w) : Function.Injective fun x => x ^^^ f x := by
  intro x y hxy
  have hxy : x ^^^ f x = y ^^^ f y := hxy
  have hfixed : f (x ^^^ y) = x ^^^ y := calc
    f (x ^^^ y) = x ^^^ (x ^^^ f x) ^^^ f y := by rw [linear, ← BitVec.xor_assoc, BitVec.xor_self, BitVec.zero_xor]
    _ = x ^^^ (y ^^^ f y) ^^^ f y := by rw [hxy]
    _ = x ^^^ y := by rw [BitVec.xor_assoc, BitVec.xor_assoc, BitVec.xor_self, BitVec.xor_zero]
  exact BitVec.xor_eq_zero_iff.mp ((Function.iterate_fixed hfixed n).symm.trans (nilpotent _))

theorem iterate_shiftLeft {w : Nat} (k n : Nat) (x : BitVec w) :
    (fun y : BitVec w => y <<< k)^[n] x = x <<< (k * n) := by
  induction n with
  | zero => exact (BitVec.shiftLeft_zero x).symm
  | succ n ih => rw [Function.iterate_succ_apply', ih, Nat.mul_succ, BitVec.shiftLeft_add]

theorem iterate_ushiftRight {w : Nat} (k n : Nat) (x : BitVec w) :
    (fun y : BitVec w => y >>> k)^[n] x = x >>> (k * n) := by
  induction n with
  | zero => exact (BitVec.ushiftRight_zero x).symm
  | succ n ih => rw [Function.iterate_succ_apply', ih, Nat.mul_succ, BitVec.shiftRight_add]

theorem xor_shiftLeft_injective {w k : Nat} (hk : 0 < k) : Function.Injective fun x : BitVec w => x ^^^ (x <<< k) :=
  xor_map_injective (n := w) (fun x y => BitVec.shiftLeft_xor_distrib x y k) fun x => by
    rw [iterate_shiftLeft, BitVec.shiftLeft_eq_zero (Nat.le_mul_of_pos_left w hk)]

theorem xor_ushiftRight_injective {w k : Nat} (hk : 0 < k) :
    Function.Injective fun x : BitVec w => x ^^^ (x >>> k) :=
  xor_map_injective (n := w) (fun x y => BitVec.ushiftRight_xor_distrib x y k) fun x => by
    rw [iterate_ushiftRight, BitVec.ushiftRight_eq_zero (Nat.le_mul_of_pos_left w hk)]

/-- A composition of three injective steps on a finite set (R74). -/
theorem permute_bijective : Function.Bijective permute := by
  have hinjective : Function.Injective permute :=
    (xor_shiftLeft_injective (w := 32) (k := 5) (by decide)).comp
      ((xor_ushiftRight_injective (k := 17) (by decide)).comp (xor_shiftLeft_injective (k := 13) (by decide)))
  have hfinite : Finite Word := Finite.of_injective BitVec.toFin fun _ _ => BitVec.eq_of_toFin_eq
  exact Finite.injective_iff_bijective.mp hinjective

@[simp] theorem permute_zero : permute 0 = 0 := rfl

@[simp] theorem permute_iterate_zero (n : Nat) : permute^[n] 0 = 0 := Function.iterate_fixed permute_zero n

theorem shiftLeft_eq_ofNat (x : Word) (k : Nat) : x <<< k = BitVec.ofNat 32 (x.toNat * 2 ^ k) :=
  BitVec.eq_of_toNat_eq (by rw [BitVec.toNat_shiftLeft, Nat.shiftLeft_eq, BitVec.toNat_ofNat])

theorem ushiftRight_eq_ofNat (x : Word) (k : Nat) : x >>> k = BitVec.ofNat 32 (x.toNat / 2 ^ k) := by
  rw [← Nat.shiftRight_eq_div_pow, ← BitVec.toNat_ushiftRight, BitVec.ofNat_toNat, BitVec.setWidth_eq]

/-- Settles O20: the shifts read as arithmetic, and each XOR-shift step is injective. -/
theorem permuteIsABijection : Obligations.PermuteIsABijection := by
  unfold Obligations.PermuteIsABijection
  refine ⟨fun x => ⟨_, _, rfl, rfl, ?_⟩, permute_zero, permute_bijective, rfl⟩
  simp only [← shiftLeft_eq_ofNat, ← ushiftRight_eq_ofNat, permute]

/-! ### The bytes of a word -/

/-- Byte `k` of a word as a number (R78). -/
theorem byteOf_toNat (x : Word) (k : BitVec 2) : (byteOf x k).toNat = x.toNat / 256 ^ k.toNat % 256 := by
  rw [byteOf, field_toNat, Nat.pow_mul, show 2 ^ 8 = 256 from rfl]

@[simp] theorem byteOf_zero (k : BitVec 2) : byteOf 0 k = 0 := BitVec.extractLsb'_zero

/-- A drawn byte as `RESULT` shows it (R81). -/
theorem zext32_byteOf (x : Word) (k : BitVec 2) :
    zext32 (byteOf x k) = BitVec.ofNat 32 (x.toNat / 2 ^ (8 * k.toNat) % 256) := by
  rw [zext32_eq_ofNat _ (by decide), byteOf_toNat, Nat.pow_mul]

theorem zext32_byteOf_zero (x : Word) : zext32 (byteOf x 0) = BitVec.ofNat 32 (x.toNat % 256) := by
  rw [zext32_byteOf]
  show BitVec.ofNat 32 (x.toNat / 1 % 256) = _
  rw [Nat.div_one]

/-- Settles O21: a byte is an 8-bit field, and the example by evaluation. -/
theorem byteLanesAreLeastSignificantFirst : Obligations.ByteLanesAreLeastSignificantFirst := by
  unfold Obligations.ByteLanesAreLeastSignificantFirst
  exact ⟨byteOf_toNat, rfl⟩

end Sys2Proof.Machine

/-! The entropy commands: what `PINIT` leaves, what a draw does with and without a seed, and how every other command
moves the entropy word. -/

namespace Sys2Proof.Machine

open Sys2Proof

/-! ### `PINIT` -/

/-- The state that a `PINIT` leaves (R76). -/
def State.afterPinit (s : State) : State :=
  (s.setPrng (permute^[s.cfg.warmup.val] (seedOf s.cfg s.msClk)) 0).markSeeded

theorem exec_pinit (s : State) : exec .pinit s = .next s.afterPinit := by
  rw [State.afterPinit, ← permuteTimes_eq_iterate]; rfl

/-- A seed of 0 is the fixed point of the warm-up (R77). -/
theorem exec_pinit_of_zeroSeed {s : State} (h : s.cfg.prngMagic = s.msClk) :
    exec .pinit s = .next (s.setPrng 0 0).markSeeded := by
  have hseed : seedOf s.cfg s.msClk = 0 := by rw [seedOf, h, BitVec.sub_self]; rfl
  rw [exec_pinit, State.afterPinit, hseed, permute_iterate_zero]

/-- The rule's example (R76): seed 1, with either `WARMUP`. -/
theorem permute_iterate_one :
    permute^[101] 1 = 0xDD6E6ABC ∧ permute^[100] 1 = 0x08C93AF7 := by decide +kernel

theorem exec_pinit_of_seedOne {s : State} (hmagic : s.cfg.prngMagic = 3) (hms : s.msClk = 2) :
    exec .pinit s = .next (s.setPrng (permute^[s.cfg.warmup.val] 1) 0).markSeeded := by
  have hseed : seedOf s.cfg s.msClk = 1 := by rw [seedOf, hmagic, hms]; rfl
  rw [exec_pinit, State.afterPinit, hseed]

theorem resetParams_warmup : Config.resetParams.warmup.val =
    if Config.resetParams.prngVariant = .counter then 101 else 100 := by
  show (Config.warmupOf Config.prngVariant).val = if Config.prngVariant = .counter then 101 else 100
  cases Config.prngVariant <;> rfl

/-- Settles O22: by the effect of `PINIT`, with the seed of each corner case and example put in. -/
theorem pinitSeedsAndWarmsUp : Obligations.PinitSeedsAndWarmsUp := by
  unfold Obligations.PinitSeedsAndWarmsUp
  obtain ⟨h101, h100⟩ := permute_iterate_one
  refine ⟨exec_pinit, decodesAs_opcode .pinit, fun s t hseed h => ?_,
    fun s hmagic hms => ⟨fun hw => ?_, fun hw => ?_⟩, resetParams_warmup⟩
  · rw [exec_pinit_of_zeroSeed hseed] at h
    cases h; rfl
  · rw [exec_pinit_of_seedOne hmagic hms, hw, ← h101]; rfl
  · rw [exec_pinit_of_seedOne hmagic hms, hw, ← h100]; rfl

/-! ### Drawing from a seeded generator -/

/-- The draw that the generator's variant makes (R79, R80). -/
def State.seededDraw (s : State) : Byte × State :=
  match s.cfg.prngVariant with
  | .counter => s.drawCounter
  | .plain => s.drawPlain

theorem State.draw_of_seeded {s : State} (h : s.seeded = true) : s.draw = .ok s.seededDraw := by
  unfold State.draw State.seededDraw
  rw [if_pos h]
  cases s.cfg.prngVariant <;> rfl

theorem State.seededDraw_of_counter {s : State} (h : s.cfg.prngVariant = .counter) : s.seededDraw = s.drawCounter := by
  simp only [State.seededDraw, h]

theorem State.seededDraw_of_plain {s : State} (h : s.cfg.prngVariant = .plain) : s.seededDraw = s.drawPlain := by
  simp only [State.seededDraw, h]

/-- The entropy word of `t` is that of `s`, or its permutation. -/
abbrev State.EntropyStep (s t : State) : Prop := t.prngX = s.prngX ∨ t.prngX = permute s.prngX

/-- Everything a draw from a seeded generator can do: it permutes the word or keeps it, returns one of its bytes, and
writes nothing but the word and the counter. -/
theorem State.seededDraw_eq (s : State) : ∃ x k c, s.seededDraw = (byteOf x k, s.setPrng x c) ∧
    (x = s.prngX ∨ x = permute s.prngX) := by
  cases hv : s.cfg.prngVariant with
  | counter =>
    refine ⟨_, _, _, State.seededDraw_of_counter hv, ?_⟩
    split
    · exact .inr rfl
    · exact .inl rfl
  | plain => exact ⟨_, _, _, State.seededDraw_of_plain hv, .inr rfl⟩

theorem State.draw_entropyStep {s t : State} {b : Byte} (h : s.draw = .ok (b, t)) : s.EntropyStep t := by
  obtain ⟨hs, _⟩ := State.draw_ok h
  obtain ⟨x, k, c, hd, hx⟩ := s.seededDraw_eq
  rw [State.draw_of_seeded hs, hd] at h
  cases h
  exact hx

/-- 0 is a fixed point of the generator: the draw returns 0 and moves the counter only (R77). -/
theorem State.seededDraw_of_zero {s : State} (h : s.prngX = 0) :
    ∃ c, s.seededDraw = (0, { s with prngCnt := c }) := by
  obtain ⟨x, k, c, hd, hx⟩ := s.seededDraw_eq
  have hx0 : x = s.prngX := hx.elim id fun hp => by rw [hp, h, permute_zero]
  refine ⟨c, ?_⟩
  rw [hd, hx0, h, byteOf_zero, ← h]
  rfl

/-! ### `PNEXT` -/

/-- The state after a `PNEXT` that draws. -/
def State.afterPnext (s : State) : State := s.seededDraw.2.setResult (zext32 s.seededDraw.1)

theorem exec_pnext_of_seeded {s : State} (h : s.seeded = true) : exec .pnext s = .next s.afterPnext := by
  have he : effectOf .pnext s = .ok s.afterPnext := by
    show pnextEffect s = _
    unfold pnextEffect
    rw [State.draw_of_seeded h]
    rfl
  rw [exec_eq_complete, he, State.complete_ok]

theorem exec_pnext_of_unseeded {s : State} (h : s.seeded = false) :
    exec .pnext s = .next (s.raise .unseeded 0x20000000) := by
  have he : effectOf .pnext s = .error .unseeded := by
    show pnextEffect s = _
    unfold pnextEffect
    rw [State.draw_of_unseeded h]
  rw [exec_eq_complete, he]
  rfl

/-- Settles O24: by the `COUNTER` draw, its byte read as arithmetic for either `PRNG_SEL`. -/
theorem pnextDrawsTheSelectedByte : Obligations.PnextDrawsTheSelectedByte := by
  unfold Obligations.PnextDrawsTheSelectedByte
  refine fun s hv => ⟨fun hs => ?_, exec_pnext_of_unseeded⟩
  have hzero : s.prngCnt = 0 ↔ s.prngCnt.toNat = 0 := BitVec.toNat_inj.symm
  have hadvance : s.prngCnt + 1 = BitVec.ofNat 2 (s.prngCnt.toNat + 1) := by
    apply BitVec.eq_of_toNat_eq
    rw [BitVec.toNat_add, BitVec.toNat_ofNat]; rfl
  have hpost : (s.prngCnt + 1).toNat = (s.prngCnt.toNat + 1) % 4 := BitVec.toNat_add _ _
  rw [exec_pnext_of_seeded hs, State.afterPnext, State.seededDraw_of_counter hv]
  simp only [State.drawCounter, zext32_byteOf, hzero]
  cases hsel : s.cfg.prngSel with
  | post => rw [if_pos rfl, hpost, hadvance]; rfl
  | pre => rw [if_neg (show ¬ PrngSel.pre = .post by decide), hadvance]; rfl

/-- Settles O25: by the `PLAIN` draw. -/
theorem plainPnextPermutesEveryTime : Obligations.PlainPnextPermutesEveryTime := by
  unfold Obligations.PlainPnextPermutesEveryTime
  refine fun s hv => ⟨fun hs => ?_, exec_pnext_of_unseeded⟩
  rw [exec_pnext_of_seeded hs, State.afterPnext, State.seededDraw_of_plain hv]
  simp only [State.drawPlain, zext32_byteOf_zero]
  rfl

/-! ### A `TICK` that draws -/

/-- A due pulse whose interval needs a draw fails without a seed (R82, R102). -/
theorem exec_tick_of_unseeded {s : State} (h : s.seeded = false) (hj : s.Jitters) (hdue : s.Due) :
    exec .tick s = .next (s.raise .unseeded 0xB0000000) := by
  have hon : s.jitterOn = true := s.jitterOn_iff.mpr hj
  have hstart : s.startPulse s.usClk = .error .unseeded := by
    unfold State.startPulse State.effPeriod
    rw [if_pos hon, State.draw_of_unseeded h]
  have he : effectOf .tick s = .error .unseeded := by
    show tickEffect s = _
    rw [tickEffect_of_due (State.jitterOn_frequency hon) (s.pulseDue_iff.mpr hdue), hstart]
    rfl
  rw [exec_eq_complete, he]
  rfl

/-- Settles O26: both commands end at the failing draw. -/
theorem unseededDrawFaults : Obligations.UnseededDrawFaults := by
  unfold Obligations.UnseededDrawFaults
  exact fun s hs => ⟨exec_pnext_of_unseeded hs, exec_tick_of_unseeded hs⟩

/-! ### The entropy word under every command -/

theorem State.effPeriod_entropyStep {s u : State} {p : Int} (h : s.effPeriod = .ok (p, u)) : s.EntropyStep u := by
  rcases s.effPeriod_cases with ⟨_, he⟩ | ⟨_, _, he⟩ | ⟨_, _, b, x, c, hd, _, he⟩ <;>
    rw [he] at h <;> cases h
  · exact .inl rfl
  · exact State.draw_entropyStep hd

theorem tickEffect_entropyStep {s t : State} (h : tickEffect s = .ok t) : s.EntropyStep t := by
  rcases tickEffect_cases s with ⟨_, he⟩ | ⟨_, _, he⟩ | ⟨_, _, c, _, he⟩ | ⟨_, _, u, hu, he⟩ <;>
    rw [he] at h <;> cases h
  · exact .inl rfl
  · exact .inl rfl
  · obtain ⟨_, _, v, _, _, hperiod, _, _, _, _, rfl⟩ := State.startPulse_ok hu
    have hdrawn : s.EntropyStep v := State.effPeriod_entropyStep hperiod
    exact hdrawn

theorem pnextEffect_entropyStep {s t : State} (h : pnextEffect s = .ok t) : s.EntropyStep t := by
  rcases pnextEffect_cases s with ⟨_, he⟩ | ⟨_, b, x, c, hd, _, he⟩ <;> rw [he] at h <;> cases h
  have hdrawn : s.EntropyStep (s.setPrng x c) := State.draw_entropyStep hd
  exact hdrawn

/-- No command but `PINIT` does more to the entropy word than one draw does. -/
theorem effectOf_entropyStep {i : Instr} {s t : State} (h : effectOf i s = .ok t) (hi : i ≠ .pinit) :
    s.EntropyStep t := by
  cases effectOf_ok h with
  | pinit => contradiction
  | pnext => exact pnextEffect_entropyStep h
  | tickGate | tickPulse => exact tickEffect_entropyStep h
  | _ => exact .inl rfl

theorem exec_entropyStep {i : Instr} {s t : State} (h : exec i s = .next t) (hi : i ≠ .pinit) : s.EntropyStep t := by
  rcases exec_cases h with hok | ⟨c, _, rfl⟩
  · exact effectOf_entropyStep hok hi
  · exact .inl (State.raise_prngX _ _ _)

/-- Settles O23: 0 is a fixed point of the warm-up, of every command's effect on the word, and of a draw. -/
theorem zeroSeedDrawsZeroForever : Obligations.ZeroSeedDrawsZeroForever := by
  unfold Obligations.ZeroSeedDrawsZeroForever
  refine ⟨fun s => exec_pinit_of_zeroSeed, fun i s t hs hx hi h => ⟨?_, ?_⟩, fun s hs hx => ?_⟩
  · exact (seededMachineNeverLacksEntropy i s t hs h).1
  · rcases exec_entropyStep h hi with hkept | hpermuted
    · rw [hkept, hx]
    · rw [hpermuted, hx, permute_zero]
  · obtain ⟨c, hd⟩ := State.seededDraw_of_zero hx
    refine ⟨⟨_, (State.draw_of_seeded hs).trans (congrArg _ hd)⟩, c, ?_⟩
    rw [exec_pnext_of_seeded hs, State.afterPnext, hd]
    rfl

end Sys2Proof.Machine

/-! Streams of draws: `PNEXT` any number of times, which bytes a `COUNTER` generator exposes, and that a stream is a
function of the seed. -/

namespace Sys2Proof.Machine

open Sys2Proof

/-! ### `PNEXT` again and again -/

theorem execAll_cons {i : Instr} {s t : State} (h : exec i s = .next t) (rest : List Instr) :
    execAll (i :: rest) s = execAll rest t := by
  rw [execAll, h]

@[simp] theorem State.afterPnext_cfg (s : State) : s.afterPnext.cfg = s.cfg := by
  obtain ⟨x, k, c, hd, _⟩ := s.seededDraw_eq
  rw [State.afterPnext, hd]; rfl

@[simp] theorem State.afterPnext_seeded (s : State) : s.afterPnext.seeded = s.seeded := by
  obtain ⟨x, k, c, hd, _⟩ := s.seededDraw_eq
  rw [State.afterPnext, hd]; rfl

theorem State.afterPnext_iterate_cfg (s : State) (n : Nat) : (State.afterPnext^[n] s).cfg = s.cfg := by
  induction n with
  | zero => rfl
  | succ n ih => rw [Function.iterate_succ_apply', State.afterPnext_cfg, ih]

theorem execAll_replicate_pnext (n : Nat) {s : State} (h : s.seeded = true) :
    execAll (List.replicate n .pnext) s = .next (State.afterPnext^[n] s) := by
  induction n generalizing s with
  | zero => rfl
  | succ n ih =>
    rw [List.replicate_succ, execAll_cons (exec_pnext_of_seeded h), ih (by rw [State.afterPnext_seeded, h])]
    rfl

/-! ### The `COUNTER` stream -/

theorem State.afterPnext_of_counter {s : State} (h : s.cfg.prngVariant = .counter) :
    s.afterPnext = s.drawCounter.2.setResult (zext32 s.drawCounter.1) := by
  rw [State.afterPnext, State.seededDraw_of_counter h]

/-- Where a `COUNTER` generator with the counter at 0 stands after `n` draws: one permutation has begun for every
four draws, and the counter is `n` modulo 4 (R79). -/
theorem State.afterPnext_iterate_counter {s : State} (hv : s.cfg.prngVariant = .counter) (hcnt : s.prngCnt = 0)
    (n : Nat) : (State.afterPnext^[n] s).prngX = permute^[(n + 3) / 4] s.prngX ∧
      (State.afterPnext^[n] s).prngCnt = BitVec.ofNat 2 n := by
  induction n with
  | zero => exact ⟨rfl, hcnt⟩
  | succ n ih =>
    obtain ⟨hx, hc⟩ := ih
    rw [Function.iterate_succ_apply', State.afterPnext_of_counter (by rw [State.afterPnext_iterate_cfg, hv])]
    have hzero : BitVec.ofNat 2 n = 0 ↔ n % 4 = 0 := by rw [← BitVec.toNat_inj, BitVec.toNat_ofNat]; rfl
    constructor
    · show (if (State.afterPnext^[n] s).prngCnt = 0 then permute (State.afterPnext^[n] s).prngX
        else (State.afterPnext^[n] s).prngX) = _
      rw [hx, hc, if_congr hzero rfl rfl]
      split
      · next hstart => rw [show (n + 1 + 3) / 4 = (n + 3) / 4 + 1 by omega, Function.iterate_succ_apply']
      · next hwithin => rw [show (n + 1 + 3) / 4 = (n + 3) / 4 by omega]
    · show (State.afterPnext^[n] s).prngCnt + 1 = _
      rw [hc, BitVec.ofNat_add]; rfl

/-- The byte that a `COUNTER` draw shows, of the word that it leaves (R79, R81). -/
theorem State.afterPnext_result_counter {s : State} (h : s.cfg.prngVariant = .counter) : s.afterPnext.result =
    zext32 (byteOf s.afterPnext.prngX (if s.cfg.prngSel = .post then s.prngCnt + 1 else s.prngCnt)) := by
  rw [State.afterPnext_of_counter h]
  cases hsel : s.cfg.prngSel <;> simp [State.drawCounter, hsel]

/-- Settles O27: draw `4j + r + 1` leaves the counter at `r + 1` and the word permuted `j + 1` times; it had found the
counter at `r`. -/
theorem counterStreamCoversEveryByte : Obligations.CounterStreamCoversEveryByte := by
  unfold Obligations.CounterStreamCoversEveryByte
  intro s j r hv hs hcnt
  have hmod (k : Nat) : BitVec.ofNat 2 (4 * j + k) = BitVec.ofNat 2 k :=
    BitVec.eq_of_toNat_eq (by simp only [BitVec.toNat_ofNat]; omega)
  obtain ⟨_, hbefore⟩ := State.afterPnext_iterate_counter hv hcnt (4 * j + r.val)
  obtain ⟨hx, hafter⟩ := State.afterPnext_iterate_counter hv hcnt (4 * j + r.val + 1)
  have hcfg := State.afterPnext_iterate_cfg s (4 * j + r.val)
  refine ⟨_, execAll_replicate_pnext _ hs, ?_, ?_, ?_⟩
  · rw [hx, show (4 * j + r.val + 1 + 3) / 4 = j + 1 by omega]
  · rw [hafter, Nat.add_assoc, hmod]
  · rw [Function.iterate_succ_apply', State.afterPnext_result_counter (hcfg ▸ hv), hcfg, hbefore, hmod,
      BitVec.ofNat_add]
    rfl

/-! ### The stream as a function of the seed -/

/-- Two states whose generators are alike: same variant and select, same word and counter, both seeded. -/
structure State.SameGenerator (s t : State) : Prop where
  variant : s.cfg.prngVariant = t.cfg.prngVariant
  sel : s.cfg.prngSel = t.cfg.prngSel
  word : s.prngX = t.prngX
  counter : s.prngCnt = t.prngCnt
  seededLeft : s.seeded = true
  seededRight : t.seeded = true

namespace State.SameGenerator

variable {s t : State}

/-- A draw reads nothing but the generator (R79, R80). -/
theorem seededDraw (h : s.SameGenerator t) : s.seededDraw.1 = t.seededDraw.1 ∧
    s.seededDraw.2.prngX = t.seededDraw.2.prngX ∧ s.seededDraw.2.prngCnt = t.seededDraw.2.prngCnt := by
  cases hv : s.cfg.prngVariant with
  | counter =>
    rw [State.seededDraw_of_counter hv, State.seededDraw_of_counter (h.variant ▸ hv)]
    simp only [State.drawCounter, h.sel, h.word, h.counter, State.setPrng_prngX, State.setPrng_prngCnt, and_self]
  | plain =>
    rw [State.seededDraw_of_plain hv, State.seededDraw_of_plain (h.variant ▸ hv)]
    simp only [State.drawPlain, h.word, h.counter, State.setPrng_prngX, State.setPrng_prngCnt, and_self]

theorem afterPnext (h : s.SameGenerator t) :
    s.afterPnext.SameGenerator t.afterPnext ∧ s.afterPnext.result = t.afterPnext.result := by
  obtain ⟨hbyte, hx, hc⟩ := h.seededDraw
  refine ⟨⟨?_, ?_, hx, hc, ?_, ?_⟩, congrArg zext32 hbyte⟩
  · rw [State.afterPnext_cfg, State.afterPnext_cfg, h.variant]
  · rw [State.afterPnext_cfg, State.afterPnext_cfg, h.sel]
  · rw [State.afterPnext_seeded, h.seededLeft]
  · rw [State.afterPnext_seeded, h.seededRight]

theorem afterPnext_iterate (h : s.SameGenerator t) (n : Nat) :
    (State.afterPnext^[n] s).SameGenerator (State.afterPnext^[n] t) := by
  induction n with
  | zero => exact h
  | succ n ih =>
    rw [Function.iterate_succ_apply', Function.iterate_succ_apply']
    exact ih.afterPnext.1

end State.SameGenerator

theorem execAll_pinit_pnext {s u : State} {n : Nat} (h : execAll (.pinit :: List.replicate n .pnext) s = .next u) :
    u = State.afterPnext^[n] s.afterPinit := by
  rw [execAll_cons (exec_pinit s), execAll_replicate_pnext n rfl] at h
  exact (Host.Outcome.next.inj h).symm

/-- Settles O28: `PINIT` makes the generators alike, and every draw from alike generators shows the same byte and
leaves them alike. -/
theorem streamDependsOnlyOnTheSeed : Obligations.StreamDependsOnlyOnTheSeed := by
  unfold Obligations.StreamDependsOnlyOnTheSeed
  intro s t u v n hvariant hsel hwarmup hseed hu hv
  rw [execAll_pinit_pnext hu, execAll_pinit_pnext hv, Function.iterate_succ_apply', Function.iterate_succ_apply']
  have hword : s.afterPinit.prngX = t.afterPinit.prngX := by
    simp only [State.afterPinit, seedOf, hwarmup, hseed, State.markSeeded_prngX, State.setPrng_prngX]
  have hinit : s.afterPinit.SameGenerator t.afterPinit := ⟨hvariant, hsel, hword, rfl, rfl, rfl⟩
  obtain ⟨hgen, hresult⟩ := (hinit.afterPnext_iterate n).afterPnext
  exact ⟨hresult, hgen.word, hgen.counter⟩

end Sys2Proof.Machine

/-! The voice table commands one at a time: what each operand check answers, what `VFIND`, `VASGN`, `VREL` and `VRD`
do where their operands are legal, and the fault that they record where one is not. -/

namespace Sys2Proof.Machine

open Sys2Proof

theorem exec_of_ok {i : Instr} {s t : State} (h : effectOf i s = .ok t) : exec i s = .next t := by
  rw [exec_eq_complete, h, State.complete_ok]

theorem exec_of_error {i : Instr} {s : State} {c : Cause} (h : effectOf i s = .error c) :
    exec i s = .next (s.raise c (encode i)) := by
  rw [exec_eq_complete, h, State.complete_error]

/-! ### Operand checks -/

theorem State.index_of_lt {s : State} {idx : Byte} (h : idx.toNat < s.cfg.slots) : s.index idx = .ok idx.toNat :=
  if_pos h

theorem State.index_of_le {s : State} {idx : Byte} (h : s.cfg.slots ≤ idx.toNat) :
    s.index idx = .error .indexRange :=
  if_neg (Nat.not_lt.mpr h)

theorem pitchOperand_of_le {pitch : Byte} (h : pitch.toNat ≤ 127) : pitchOperand pitch = .ok pitch.toNat :=
  if_pos h

theorem pitchOperand_of_gt {pitch : Byte} (h : 127 < pitch.toNat) : pitchOperand pitch = .error .pitchRange :=
  if_neg (Nat.not_le.mpr h)

theorem velocityOperand_of_audible {vel : Byte} (h : 1 ≤ vel.toNat ∧ vel.toNat ≤ 127) :
    velocityOperand vel = .ok vel := by
  rcases velocityOperand_cases vel with ⟨_, _, hv⟩ | ⟨hv, _⟩
  · exact hv
  · omega

theorem velocityOperand_of_illegal {vel : Byte} (h : vel.toNat = 0 ∨ 127 < vel.toNat) :
    velocityOperand vel = .error .velRange := by
  rcases velocityOperand_cases vel with ⟨_, _, _⟩ | ⟨_, hv⟩
  · omega
  · exact hv

theorem fieldOf_of_gt {fsel : BitVec 3} (h : 5 < fsel.toNat) : fieldOf fsel = .error .selRange := by
  have hsel : fsel = 6 ∨ fsel = 7 := by bv_omega
  rcases hsel with rfl | rfl <;> rfl

/-! ### Slots of the table -/

theorem periodOf_of_periodIs {P : Params} {pitch : Nat} {p : Word} (h : PeriodIs P pitch p) : periodOf P pitch = p := by
  simp [periodOf, List.getD, show P.periodTable[pitch]? = some p from h]

/-- In a table of `N` slots the model's lookup reads the slot. -/
theorem State.slotIs_iff {s : State} (hlen : s.voices.length = s.cfg.slots) (i : Nat) (v : Slot) :
    s.SlotIs i v ↔ i < s.cfg.slots ∧ s.slot i = v := by
  refine and_congr_right fun hi => ?_
  have hentry : s.voices[i]? = some (s.slot i) := by simp [State.slot, List.getD, hlen ▸ hi]
  rw [hentry, Option.some_inj]

/-- A good slot with the sentinel pitch is the canonical empty slot (R23). -/
theorem Slot.Good.eq_emptySlot {P : Params} {v : Slot} (hv : v.Good P) (h : v.pitch = 255) : v = emptySlot P := by
  rcases hv with rfl | ⟨hpitch, _⟩
  · rfl
  · rw [h] at hpitch
    exact absurd hpitch (by decide)

theorem State.setSlot_of_slotIs {s : State} {i : Nat} {v : Slot} (h : s.SlotIs i v) : s.setSlot i v = s := by
  obtain ⟨_, hentry⟩ := h
  obtain ⟨hi, rfl⟩ := List.getElem?_eq_some_iff.mp hentry
  rw [State.setSlot, List.set_getElem_self]

/-! ### `VFIND` -/

theorem exec_vfind (s : State) : exec .vfind s = .next (s.setResult (findResult s.firstEmpty)) := rfl

/-- Settles O31: by what the scan can answer, an index or none. -/
theorem vfindReturnsTheFirstEmptySlot : Obligations.VfindReturnsTheFirstEmptySlot := by
  unfold Obligations.VfindReturnsTheFirstEmptySlot
  refine ⟨fun s hlen => ⟨_, exec_vfind s, ?_⟩, decodesAs_opcode .vfind⟩
  simp only [State.slotIs_iff hlen, ← Slot.isEmpty_iff, ← Slot.isEmpty_eq_false_iff]
  rcases s.firstEmpty_cases with ⟨i, hfound, hi, hempty, hleast⟩ | ⟨hfound, hfull⟩
  · left
    refine ⟨i, _, ⟨hi, rfl⟩, hempty, by rw [hfound]; rfl, ?_⟩
    rintro j _ hj ⟨_, rfl⟩
    exact hleast j hj
  · right
    refine ⟨?_, by rw [hfound]; rfl⟩
    rintro j _ ⟨hj, rfl⟩
    exact hfull j hj

/-! ### `VASGN` -/

section
variable {s : State} {idx : Byte} {pitch vel : Byte} (ch : BitVec 4)

theorem exec_vasgn_of_legal (hi : idx.toNat < s.cfg.slots) (hp : pitch.toNat ≤ 127)
    (hv : 1 ≤ vel.toNat ∧ vel.toNat ≤ 127) : exec (.vasgn idx ch pitch vel) s =
      .next (s.setSlot idx.toNat (assignedSlot s ch pitch.toNat vel)) :=
  exec_of_ok (by simp only [effectOf, vasgnEffect, State.index_of_lt hi, pitchOperand_of_le hp,
    velocityOperand_of_audible hv])

theorem exec_vasgn_of_illegalIndex (hi : s.cfg.slots ≤ idx.toNat) : exec (.vasgn idx ch pitch vel) s =
      .next (s.raise .indexRange (encode (.vasgn idx ch pitch vel))) :=
  exec_of_error (by simp only [effectOf, vasgnEffect, State.index_of_le hi])

theorem exec_vasgn_of_illegalPitch (hi : idx.toNat < s.cfg.slots) (hp : 127 < pitch.toNat) :
    exec (.vasgn idx ch pitch vel) s = .next (s.raise .pitchRange (encode (.vasgn idx ch pitch vel))) :=
  exec_of_error (by simp only [effectOf, vasgnEffect, State.index_of_lt hi, pitchOperand_of_gt hp])

theorem exec_vasgn_of_illegalVelocity (hi : idx.toNat < s.cfg.slots) (hp : pitch.toNat ≤ 127)
    (hv : vel.toNat = 0 ∨ 127 < vel.toNat) : exec (.vasgn idx ch pitch vel) s =
      .next (s.raise .velRange (encode (.vasgn idx ch pitch vel))) :=
  exec_of_error (by simp only [effectOf, vasgnEffect, State.index_of_lt hi, pitchOperand_of_le hp,
    velocityOperand_of_illegal hv])

end

theorem assignedSlot_of_periodIs {s : State} {pitch : Byte} {p : Word} (h : PeriodIs s.cfg pitch.toNat p)
    (ch : BitVec 4) (vel : Byte) : assignedSlot s ch pitch.toNat vel =
      ⟨ch, pitch, vel, p, .ofNat 32 (s.usClk.toNat % p.toNat), s.msClk⟩ := by
  rw [assignedSlot, periodOf_of_periodIs h, BitVec.ofNat_toNat, BitVec.setWidth_eq, BitVec.umod_def]

/-- Settles O32: the legal case, and each check failing after those before it have passed. -/
theorem vasgnWritesTheWholeSlot : Obligations.VasgnWritesTheWholeSlot := by
  unfold Obligations.VasgnWritesTheWholeSlot
  have ⟨_, _, _, _, hdecode, _⟩ := decodeFollowsTheOpcodeMap
  refine ⟨fun s idx ch pitch vel p hi hp hv hv' hperiod => ?_, fun s idx ch pitch vel =>
    ⟨exec_vasgn_of_illegalIndex ch, exec_vasgn_of_illegalPitch ch, exec_vasgn_of_illegalVelocity ch⟩, hdecode⟩
  rw [exec_vasgn_of_legal ch hi hp ⟨hv, hv'⟩, assignedSlot_of_periodIs hperiod]
  rfl

/-! ### `VREL` -/

theorem exec_vrel_of_legal {s : State} {idx : Byte} (hi : idx.toNat < s.cfg.slots) :
    exec (.vrel idx) s = .next (s.setSlot idx.toNat (emptySlot s.cfg)) :=
  exec_of_ok (by simp only [effectOf, vrelEffect, State.index_of_lt hi])

theorem exec_vrel_of_illegalIndex {s : State} {idx : Byte} (hi : s.cfg.slots ≤ idx.toNat) :
    exec (.vrel idx) s = .next (s.raise .indexRange (encode (.vrel idx))) :=
  exec_of_error (by simp only [effectOf, vrelEffect, State.index_of_le hi])

/-- Settles O33: by the index check, and the canonical empty slot written out. -/
theorem vrelEmptiesTheSlot : Obligations.VrelEmptiesTheSlot := by
  unfold Obligations.VrelEmptiesTheSlot
  refine ⟨fun s idx p hperiod => ⟨fun hi => ?_, exec_vrel_of_illegalIndex⟩, decodesAs_opcode .vrel⟩
  rw [exec_vrel_of_legal hi, emptySlot_of_periodIs hperiod]
  rfl

/-- Settles O34: an empty slot of a good state is the canonical one already. -/
theorem vrelOfAnEmptySlotChangesNothing : Obligations.VrelOfAnEmptySlotChangesNothing := by
  unfold Obligations.VrelOfAnEmptySlotChangesNothing
  intro s idx v hinv hslot hpitch
  obtain ⟨_, ⟨_, hgood⟩, _⟩ := hinv
  obtain ⟨hi, hentry⟩ := hslot
  have hv : v = emptySlot s.cfg := (hgood v (List.mem_of_getElem? hentry)).eq_emptySlot hpitch
  rw [exec_vrel_of_legal hi, ← hv, State.setSlot_of_slotIs ⟨hi, hentry⟩]

/-! ### `VRD` -/

theorem exec_vrd_of_slotIs {s : State} {idx : Byte} {v : Slot} (h : s.SlotIs idx.toNat v) {fsel : BitVec 3}
    {f : SlotField} (hf : fieldOf fsel = .ok f) : exec (.vrd idx fsel) s = .next (s.setResult (v.field f)) := by
  obtain ⟨hi, hentry⟩ := h
  exact exec_of_ok (by simp only [effectOf, vrdEffect, State.index_of_lt hi, hf, State.slot_of_getElem? hentry])

theorem exec_vrd_of_illegalIndex {s : State} {idx : Byte} (fsel : BitVec 3) (hi : s.cfg.slots ≤ idx.toNat) :
    exec (.vrd idx fsel) s = .next (s.raise .indexRange (encode (.vrd idx fsel))) :=
  exec_of_error (by simp only [effectOf, vrdEffect, State.index_of_le hi])

theorem exec_vrd_of_illegalField {s : State} {idx : Byte} {fsel : BitVec 3} (hi : idx.toNat < s.cfg.slots)
    (hf : 5 < fsel.toNat) : exec (.vrd idx fsel) s = .next (s.raise .selRange (encode (.vrd idx fsel))) :=
  exec_of_error (by simp only [effectOf, vrdEffect, State.index_of_lt hi, fieldOf_of_gt hf])

/-- Settles O35: one read for each field that a select names, and the two checks in their order. -/
theorem vrdReadsOneField : Obligations.VrdReadsOneField := by
  unfold Obligations.VrdReadsOneField
  have ⟨_, _, _, _, _, _, hdecode, _⟩ := decodeFollowsTheOpcodeMap
  refine ⟨fun s idx v h => ?_,
    fun s idx fsel => ⟨exec_vrd_of_illegalIndex fsel, exec_vrd_of_illegalField⟩, hdecode⟩
  rw [← zext32_eq_ofNat v.channel (by decide), ← zext32_eq_ofNat v.pitch (by decide),
    ← zext32_eq_ofNat v.velocity (by decide)]
  exact ⟨exec_vrd_of_slotIs h (f := .channel) rfl, exec_vrd_of_slotIs h (f := .pitch) rfl,
    exec_vrd_of_slotIs h (f := .velocity) rfl, exec_vrd_of_slotIs h (f := .periodUs) rfl,
    exec_vrd_of_slotIs h (f := .phaseUs) rfl, exec_vrd_of_slotIs h (f := .startMs) rfl⟩

end Sys2Proof.Machine

/-! The voice table commands in sequence: what `VFIND` answers after an assignment or a release and on a full table,
and when an assigned voice fires. -/

namespace Sys2Proof.Machine

open Sys2Proof

/-! ### What the scan's answer says of the table -/

/-- An occupied slot is not the answer (R86). -/
theorem State.found_ne {s : State} (hslots : s.cfg.slots ≤ 256) {i : Nat} (hi : i < 256)
    (h : (s.slot i).isEmpty = false) : (findResult s.firstEmpty).toNat ≠ i := by
  rcases s.firstEmpty_cases with ⟨j, hfound, hj, hempty, _⟩ | ⟨hfound, _⟩ <;> rw [hfound]
  · have hji : j ≠ i := by
      rintro rfl
      simp [h] at hempty
    rw [findResult, BitVec.toNat_ofNat]
    omega
  · exact Nat.ne_of_gt (hi.trans (by decide))

/-- The answer is not above any empty slot (R86). -/
theorem State.found_le {s : State} {i : Nat} (hi : i < s.cfg.slots) (h : (s.slot i).isEmpty = true) :
    (findResult s.firstEmpty).toNat ≤ i := by
  rcases s.firstEmpty_cases with ⟨j, hfound, _, _, hleast⟩ | ⟨_, hfull⟩
  · have hji : j ≤ i := Nat.le_of_not_lt fun hij => by simp [hleast i hij] at h
    rw [hfound, findResult, BitVec.toNat_ofNat]
    exact (Nat.mod_le _ _).trans hji
  · simp [hfull i hi] at h

/-- On a table without an empty slot the answer is `NONE` (R86). -/
theorem State.found_none {s : State} (h : ∀ i, i < s.cfg.slots → (s.slot i).isEmpty = false) :
    findResult s.firstEmpty = 0xFFFFFFFF := by
  rcases s.firstEmpty_cases with ⟨i, _, hi, hempty, _⟩ | ⟨hfound, _⟩
  · simp [h i hi] at hempty
  · rw [hfound, findResult]

/-! ### Assign, release and find -/

theorem emptySlot_isEmpty (P : Params) : (emptySlot P).isEmpty = true := rfl

/-- A legal pitch is not the sentinel (R18). -/
theorem assignedSlot_not_isEmpty (s : State) (ch : BitVec 4) {pitch : Nat} (h : pitch ≤ 127) (vel : Byte) :
    (assignedSlot s ch pitch vel).isEmpty = false := by
  rw [Slot.isEmpty_eq_false_iff]
  intro h255
  have hp : pitch % 256 = 255 := congrArg BitVec.toNat h255
  omega

theorem execAll_then_vfind {i : Instr} {s t : State} (h : exec i s = .next t) :
    execAll [i, .vfind] s = .next (t.setResult (findResult t.firstEmpty)) := by
  rw [execAll_cons h, execAll_cons (exec_vfind t), execAll]

/-- Settles O36: the assigned slot is not empty, so it is not the answer; the released one is, so the answer is not
above it. -/
theorem assignThenFindRoundTrip : Obligations.AssignThenFindRoundTrip := by
  unfold Obligations.AssignThenFindRoundTrip
  intro s idx hinv hi
  obtain ⟨⟨_, hslots, _⟩, ⟨hlen, _⟩, _⟩ := hinv
  constructor
  · intro ch pitch vel hp hv hv'
    refine ⟨_, execAll_then_vfind (exec_vasgn_of_legal ch hi hp ⟨hv, hv'⟩),
      State.found_ne (s := s.setSlot _ _) hslots idx.isLt ?_⟩
    rw [State.slot_setSlot_self _ _ _ (hlen ▸ hi), assignedSlot_not_isEmpty s ch hp]
  · refine ⟨_, execAll_then_vfind (exec_vrel_of_legal hi), State.found_le hi ?_⟩
    rw [State.slot_setSlot_self _ _ _ (hlen ▸ hi), emptySlot_isEmpty]

/-! ### A full table -/

theorem execAll_append {l : List Instr} {s t : State} (h : execAll l s = .next t) (rest : List Instr) :
    execAll (l ++ rest) s = execAll rest t := by
  induction l generalizing s with
  | nil =>
    cases h
    rfl
  | cons i l ih =>
    cases hx : exec i s with
    | next u =>
      rw [execAll_cons hx] at h
      rw [List.cons_append, execAll_cons hx, ih h]
    | fault f | refused r => simp [execAll, hx] at h

/-- A note to assign: slot index, channel, pitch, velocity. -/
abbrev Note := Byte × BitVec 4 × Byte × Byte

/-- The command that assigns a note. -/
def assignNote (n : Note) : Instr := .vasgn n.1 n.2.1 n.2.2.1 n.2.2.2

/-- The note's operands are legal (R67). -/
abbrev Note.Legal (P : Params) (n : Note) : Prop :=
  n.1.toNat < P.slots ∧ n.2.2.1.toNat ≤ 127 ∧ 1 ≤ n.2.2.2.toNat ∧ n.2.2.2.toNat ≤ 127

/-- `t` comes from `s` by assignments: same parameters, same size of table, same record, and no slot emptied. -/
structure State.Fuller (s t : State) : Prop where
  cfg : t.cfg = s.cfg
  length : t.voices.length = s.voices.length
  fault : t.fault = s.fault
  kept : ∀ i, (s.slot i).isEmpty = false → (t.slot i).isEmpty = false

theorem State.Fuller.refl (s : State) : s.Fuller s := ⟨rfl, rfl, rfl, fun _ h => h⟩

theorem State.Fuller.trans {s t u : State} (hst : s.Fuller t) (htu : t.Fuller u) : s.Fuller u :=
  ⟨htu.cfg.trans hst.cfg, htu.length.trans hst.length, htu.fault.trans hst.fault,
    fun i h => htu.kept i (hst.kept i h)⟩

theorem State.fuller_setSlot {s : State} {i : Nat} (hi : i < s.voices.length) {v : Slot} (hv : v.isEmpty = false) :
    s.Fuller (s.setSlot i v) := by
  refine ⟨rfl, List.length_set, rfl, fun j hj => ?_⟩
  by_cases hij : i = j
  · rw [← hij, State.slot_setSlot_self _ _ _ hi, hv]
  · rw [State.slot_setSlot_other _ _ _ _ hij, hj]

/-- One legal assignment fills its slot and empties none. -/
theorem exec_assignNote {s : State} (hlen : s.voices.length = s.cfg.slots) {n : Note} (hn : n.Legal s.cfg) :
    ∃ t, exec (assignNote n) s = .next t ∧ s.Fuller t ∧ (t.slot n.1.toNat).isEmpty = false := by
  obtain ⟨hi, hp, hv⟩ := hn
  have hoccupied := assignedSlot_not_isEmpty s n.2.1 hp n.2.2.2
  refine ⟨_, exec_vasgn_of_legal n.2.1 hi hp hv, State.fuller_setSlot (hlen ▸ hi) hoccupied, ?_⟩
  rw [State.slot_setSlot_self _ _ _ (hlen ▸ hi), hoccupied]

/-- Legal assignments fill every slot that they name, in any order and with repeats, and empty none. -/
theorem execAll_assignNote {notes : List Note} {s : State} (hlen : s.voices.length = s.cfg.slots)
    (hlegal : ∀ n ∈ notes, n.Legal s.cfg) : ∃ t, execAll (notes.map assignNote) s = .next t ∧ s.Fuller t ∧
      ∀ n ∈ notes, (t.slot n.1.toNat).isEmpty = false := by
  induction notes generalizing s with
  | nil => exact ⟨s, rfl, .refl s, nofun⟩
  | cons n notes ih =>
    rw [List.forall_mem_cons] at hlegal
    obtain ⟨hn, hrest⟩ := hlegal
    obtain ⟨u, hu, hsu, hfilled⟩ := exec_assignNote hlen hn
    obtain ⟨t, ht, hut, hall⟩ := ih (by rw [hsu.length, hsu.cfg, hlen]) (by rw [hsu.cfg]; exact hrest)
    refine ⟨t, ?_, hsu.trans hut, List.forall_mem_cons.mpr ⟨hut.kept _ hfilled, hall⟩⟩
    rw [List.map_cons, execAll_cons hu, ht]

/-- Settles O37: by induction on the notes every slot is filled, and a scan of a full table answers `NONE`. -/
theorem fullTableFindsNone : Obligations.FullTableFindsNone := by
  unfold Obligations.FullTableFindsNone
  intro s notes hinv hlegal hreach
  obtain ⟨_, ⟨hlen, _⟩, _⟩ := hinv
  obtain ⟨t, ht, hst, hfilled⟩ := execAll_assignNote hlen hlegal
  have hfull : ∀ i, i < t.cfg.slots → (t.slot i).isEmpty = false := fun i hi => by
    obtain ⟨n, hn, rfl⟩ := hreach i (hst.cfg ▸ hi)
    exact hfilled n hn
  exact ⟨_, execAll_append ht [.vfind], State.found_none hfull, hst.fault⟩

/-! ### When an assigned voice fires -/

theorem exec_tick_of_midi {s : State} (h : isFrequency s.mode = false) :
    exec .tick s = .next (s.showTick false (s.midiGate s.usClk)) :=
  exec_of_ok (tickEffect_of_midi h)

/-- One firing slot turns the gate on (R104). -/
theorem exec_tick_of_fires {s : State} (h : isFrequency s.mode = false) {i : Nat} (hi : i < s.cfg.slots)
    (hf : (s.slot i).fires s.usClk s.widthSp = true) :
    exec .tick s = .next (s.showTick false true) := by
  have hgate : s.midiGate s.usClk = true := (s.midiGate_iff _).mpr ⟨i, hi, hf⟩
  rw [exec_tick_of_midi h, hgate]

/-- A voice is at the start of its period at its assignment and every whole number of periods later (R88, R104). -/
theorem assignedSlot_offsetAt (s : State) (ch : BitVec 4) (pitch : Nat) (vel : Byte) {now : Word} {k : Nat}
    (h : now.toNat = s.usClk.toNat + k * (periodOf s.cfg pitch).toNat) :
    (assignedSlot s ch pitch vel).offsetAt now = 0 := by
  have hphase : (assignedSlot s ch pitch vel).phaseUs.toNat = now.toNat % (periodOf s.cfg pitch).toNat := by
    rw [h, Nat.add_mul_mod_self_right]
    exact BitVec.toNat_umod
  unfold Slot.offsetAt
  rw [hphase]
  show ((now.toNat : Int) % (periodOf s.cfg pitch).toNat + (periodOf s.cfg pitch).toNat -
    (now.toNat % (periodOf s.cfg pitch).toNat : Nat)) % (periodOf s.cfg pitch).toNat = 0
  rw [Int.natCast_mod, add_sub_cancel_left, Int.emod_self]

/-- Settles O45: the new voice is at the start of its period and sounds, so it turns the gate on. -/
theorem newVoiceFiresEveryPeriod : Obligations.NewVoiceFiresEveryPeriod := by
  unfold Obligations.NewVoiceFiresEveryPeriod
  intro s idx ch pitch vel p now k hinv hmode hwidth hi hp hv hv' hperiod hnow
  obtain ⟨_, ⟨hlen, _⟩, _⟩ := hinv
  have hmidi : isFrequency s.mode = false := by rcases hmode with hm | hm <;> rw [hm] <;> rfl
  have hsounds : vel ≠ 0 := by rintro rfl; simp at hv
  have hoffset := assignedSlot_offsetAt s ch pitch.toNat vel (periodOf_of_periodIs hperiod ▸ hnow)
  have hfires : (assignedSlot s ch pitch.toNat vel).fires now s.widthSp = true :=
    (Slot.fires_iff _ _ _).mpr ⟨hsounds, hoffset ▸ Int.natCast_pos.mpr hwidth⟩
  have hslot := State.slot_setSlot_self s _ (assignedSlot s ch pitch.toNat vel) (hlen ▸ hi)
  exact ⟨_, _, exec_vasgn_of_legal ch hi hp ⟨hv, hv'⟩, exec_tick_of_fires hmidi hi (hslot.symm ▸ hfires), rfl, rfl⟩

end Sys2Proof.Machine

/-! The policy commands: the settings `SMODE`, `SBEND`, `SPER` and `SWID`, and `TICK` case by case: in a MIDI mode,
before `ACC_NEXT`, and where it starts a pulse. -/

namespace Sys2Proof.Machine

open Sys2Proof

/-- A command has one next state. -/
theorem exec_unique {i : Instr} {s t u : State} (ht : exec i s = .next t) (hu : exec i s = .next u) : t = u :=
  Host.Outcome.next.inj (ht.symm.trans hu)

/-! ### The settings -/

/-- Settles O39: by the effect of `SMODE` and its row of the opcode map. -/
theorem smodeLatchesTheMode : Obligations.SmodeLatchesTheMode := by
  unfold Obligations.SmodeLatchesTheMode
  have ⟨_, _, _, _, _, _, _, hdecode, _⟩ := decodeFollowsTheOpcodeMap
  exact ⟨fun _ _ => rfl, hdecode⟩

/-- Settles O40: by the effect of `SBEND` and its row of the opcode map. -/
theorem sbendSetsTheFlag : Obligations.SbendSetsTheFlag := by
  unfold Obligations.SbendSetsTheFlag
  have ⟨_, _, _, _, _, _, _, _, hdecode, _⟩ := decodeFollowsTheOpcodeMap
  exact ⟨fun _ _ => rfl, hdecode⟩

theorem immediate_eq_ofNat (us : BitVec 28) : immediate us = BitVec.ofNat 32 us.toNat :=
  zext32_eq_ofNat us (by decide)

/-- Settles O41: by the two effects, the zero-extended immediate read as its number. -/
theorem setpointsTakeTheImmediate : Obligations.SetpointsTakeTheImmediate := by
  unfold Obligations.SetpointsTakeTheImmediate
  refine ⟨fun s us => ?_, decodesAs_opcode .sper, decodesAs_opcode .swid⟩
  rw [← immediate_eq_ofNat]
  exact ⟨rfl, rfl⟩

/-! ### The `TICK` result word -/

theorem tickResult_false (g : Bool) : tickResult false g = if g then 1 else 0 := by cases g <;> rfl

theorem tickResult_true (g : Bool) : tickResult true g = if g then 3 else 2 := by cases g <;> rfl

theorem tickResult_toNat (started g : Bool) :
    (tickResult started g).toNat = (if started then 2 else 0) + if g then 1 else 0 := by
  cases started <;> cases g <;> rfl

/-! ### `TICK` in a MIDI mode -/

theorem isFrequency_of_midi {m : Mode} (h : m = .midiUsb ∨ m = .midiJack) : isFrequency m = false := by
  rcases h with rfl | rfl <;> rfl

/-- Settles O42: the OR over the table's slots, each slot's square wave read as the rule's formula. -/
theorem midiTickIsTheOrOfVoices : Obligations.MidiTickIsTheOrOfVoices := by
  unfold Obligations.MidiTickIsTheOrOfVoices
  intro s hmode hlen
  refine ⟨s.midiGate s.usClk, ?_, ?_⟩
  · rw [exec_tick_of_midi (isFrequency_of_midi hmode), ← tickResult_false]
    rfl
  · rw [s.midiGate_iff]
    refine exists_congr fun i => ⟨fun ⟨hi, hfires⟩ => ?_, fun ⟨v, hslot, hsounds, hon⟩ => ?_⟩
    · exact ⟨s.slot i, (s.slotIs_iff hlen i _).mpr ⟨hi, rfl⟩, (Slot.fires_iff _ _ _).mp hfires⟩
    · obtain ⟨hi, rfl⟩ := (s.slotIs_iff hlen i v).mp hslot
      exact ⟨hi, (Slot.fires_iff _ _ _).mpr ⟨hsounds, hon⟩⟩

/-- Settles O43: the gate of a MIDI mode reads the voices, the width and the clock only. -/
theorem midiTickIgnoresFrequencyState : Obligations.MidiTickIgnoresFrequencyState := by
  unfold Obligations.MidiTickIgnoresFrequencyState
  intro s b sd a sp x n l c hmode
  have hmidi : isFrequency s.mode = false := isFrequency_of_midi hmode
  exact ⟨_, _, exec_tick_of_midi hmidi, exec_tick_of_midi hmidi⟩

/-! ### `TICK` before `ACC_NEXT` -/

/-- `pulseDue` is `Due`, negated: armed, and `ACC_NEXT` has not come. -/
theorem State.pulseDue_eq_false_iff (s : State) : s.pulseDue s.usClk = false ↔ ¬ s.Due :=
  Bool.eq_false_iff.trans s.pulseDue_iff.not

theorem exec_tick_of_early {s : State} (hm : s.FrequencyMode) (hd : ¬ s.Due) :
    exec .tick s = .next (s.showTick false (s.freqGate s.usClk)) :=
  exec_of_ok (tickEffect_of_early ((isFrequency_iff _).mpr hm) (s.pulseDue_eq_false_iff.mpr hd))

/-- Settles O48: an armed accumulator whose `ACC_NEXT` has not come is not due. -/
theorem earlyTickOnlySetsTheGate : Obligations.EarlyTickOnlySetsTheGate := by
  unfold Obligations.EarlyTickOnlySetsTheGate
  intro s hm harmed hearly
  have hd : ¬ s.Due := not_or.mpr ⟨by simp [harmed], Int.not_le.mpr hearly⟩
  rw [exec_tick_of_early hm hd, State.showTick, tickResult_false]
  rfl

/-! ### The effective period -/

/-- Settles O49: the default function is the formula of the rule, and the examples are evaluated. -/
theorem defaultJitterIsSymmetric : Obligations.DefaultJitterIsSymmetric := by
  unfold Obligations.DefaultJitterIsSymmetric
  have hformula (P : Params) (step : Nat) (sp : Word) (b : Byte) (h : P.jitter = .default step) :
      jitterValue P sp b = jitterDefault step sp b := by rw [jitterValue, h]
  exact ⟨hformula, fun P h => ⟨hformula P 1 1000 0xB6 h, hformula P 1 10 0 h⟩⟩

theorem clampPeriod_eq_max_min {P : Params} (hP : P.Valid) (v : Int) :
    clampPeriod P v = max (P.pMin : Int) (min v P.pMax) := by
  obtain ⟨_, _, _, _, _, hle, _⟩ := hP
  exact clamp_eq_max_min v _ _ (Int.ofNat_le.mpr hle)

theorem State.effPeriod_of_steady {s : State} (h : ¬ s.Jitters) :
    s.effPeriod = .ok (clampPeriod s.cfg s.periodSp.toNat, s) :=
  if_neg (s.jitterOn_iff.not.mpr h)

theorem State.effPeriod_of_jitters {s u : State} {b : Byte} (h : s.Jitters) (hs : s.seeded = true)
    (hd : s.seededDraw = (b, u)) :
    s.effPeriod = .ok (clampPeriod s.cfg (jitterValue s.cfg s.periodSp b), u) := by
  rw [State.effPeriod, if_pos (s.jitterOn_iff.mpr h), State.draw_of_seeded hs, hd]

/-! ### `TICK` that starts a pulse -/

/-- The state after a `TICK` that starts a pulse of the given period, its draw having left the generator at `x` and
`c` (R105, R108, R109). -/
def State.afterPulse (s : State) (x : Word) (c : BitVec 2) (period : Int) : State :=
  ((s.setPrng x c).schedulePulse (s.pulseBase s.usClk period)
      (s.pulseBase s.usClk period + BitVec.ofInt 32 period)).showTick true
    (decide ((s.usClk - s.pulseBase s.usClk period).toNat < s.widthSp.toNat))

theorem exec_tick_of_due {s : State} {x : Word} {c : BitVec 2} {period : Int} (hm : s.FrequencyMode) (hd : s.Due)
    (hp : s.effPeriod = .ok (period, s.setPrng x c)) : exec .tick s = .next (s.afterPulse x c period) := by
  refine exec_of_ok ((tickEffect_of_due ((isFrequency_iff _).mpr hm) (s.pulseDue_iff.mpr hd)).trans ?_)
  rw [State.startPulse, hp]
  rfl

/-- Everything a due `TICK` that can draw does: a pulse of the clamped setpoint, or of the clamped `JITTER_FN` of a
byte. -/
theorem exec_tick_due_cases {s t : State} (hm : s.FrequencyMode) (hd : s.Due) (hdraw : s.CanDraw)
    (h : exec .tick s = .next t) : ∃ x c v, t = s.afterPulse x c (clampPeriod s.cfg v) ∧
      (v = s.periodSp.toNat ∨ ∃ b : Byte, v = jitterValue s.cfg s.periodSp b) := by
  by_cases hj : s.Jitters
  · obtain ⟨x, k, c, hbyte, _⟩ := s.seededDraw_eq
    have hx := exec_tick_of_due hm hd (State.effPeriod_of_jitters hj (hdraw hj) hbyte)
    exact ⟨x, c, _, exec_unique h hx, .inr ⟨_, rfl⟩⟩
  · have hx := exec_tick_of_due hm hd (State.effPeriod_of_steady hj)
    exact ⟨_, _, _, exec_unique h hx, .inl rfl⟩

/-- Settles O46: the period of a due pulse without jitter is the clamped setpoint. -/
theorem steadyTickStartsAPulse : Obligations.SteadyTickStartsAPulse := by
  unfold Obligations.SteadyTickStartsAPulse
  intro s hP hm hj hd
  have hperiod : clampPeriod s.cfg s.periodSp.toNat = (max s.cfg.pMin (min s.periodSp.toNat s.cfg.pMax) : Nat) := by
    rw [clampPeriod_eq_max_min hP, Nat.cast_max, Nat.cast_min]
  rw [exec_tick_of_due (x := s.prngX) (c := s.prngCnt) hm hd (State.effPeriod_of_steady hj), State.afterPulse,
    State.showTick, tickResult_true, hperiod, BitVec.ofInt_natCast]
  rfl

/-- A byte shown in `RESULT` can be read back from it (R81). -/
theorem ofNat_zext32_toNat (b : Byte) : BitVec.ofNat 8 (zext32 b).toNat = b := by
  rw [zext32_toNat b (by decide), BitVec.ofNat_toNat, BitVec.setWidth_eq]

/-- Settles O47: the draw of a due pulse with jitter is that of a `PNEXT`, and its byte is the one `PNEXT` shows. -/
theorem jitteredTickDrawsOneByte : Obligations.JitteredTickDrawsOneByte := by
  unfold Obligations.JitteredTickDrawsOneByte
  intro s hP hj hs hd
  have ⟨hm, _⟩ := hj
  obtain ⟨x, k, c, hdraw, _⟩ := s.seededDraw_eq
  have hpnext : s.afterPnext = (s.setPrng x c).setResult (zext32 (byteOf x k)) := by rw [State.afterPnext, hdraw]
  refine ⟨_, exec_pnext_of_seeded hs, ?_⟩
  rw [exec_tick_of_due hm hd (State.effPeriod_of_jitters hj hs hdraw), State.afterPulse, State.showTick,
    tickResult_true, clampPeriod_eq_max_min hP, hpnext, State.setResult_result, ofNat_zext32_toNat]
  rfl

/-- Settles O50: in a MIDI mode and before `ACC_NEXT` no pulse starts, and a due `TICK` starts one. -/
theorem tickResultBits : Obligations.TickResultBits := by
  unfold Obligations.TickResultBits
  intro s t hdraw h
  by_cases hm : s.FrequencyMode
  · by_cases hd : s.Due
    · obtain ⟨x, c, v, rfl, _⟩ := exec_tick_due_cases hm hd hdraw h
      rw [if_pos ⟨hm, hd⟩]
      exact tickResult_toNat true _
    · obtain rfl := exec_unique (exec_tick_of_early hm hd) h
      rw [if_neg fun hstart => hd hstart.2]
      exact tickResult_toNat false _
  · have hmidi : isFrequency s.mode = false := Bool.eq_false_iff.mpr ((isFrequency_iff _).not.mpr hm)
    obtain rfl := exec_unique (exec_tick_of_midi hmidi) h
    rw [if_neg fun hstart => hm hstart.1]
    exact tickResult_toNat false _

/-! ### The scheduled interval -/

/-- What is scheduled is the period, `ACC_NEXT - ACC_LAST` (R110). -/
theorem State.afterPulse_interval {s : State} (hP : s.cfg.Valid) (x : Word) (c : BitVec 2) (v : Int) :
    (((s.afterPulse x c (clampPeriod s.cfg v)).accNext - (s.afterPulse x c (clampPeriod s.cfg v)).accLast).toNat : Int)
      = clampPeriod s.cfg v := by
  rw [State.afterPulse, State.showTick_accNext, State.showTick_accLast, State.schedulePulse_accNext,
    State.schedulePulse_accLast, add_sub_cancel_left, clampPeriod_toNat hP]

/-- Settles O51: a clamped value lies between the bounds, and the interval of every pulse start is one. -/
theorem pulsePeriodIsClamped : Obligations.PulsePeriodIsClamped := by
  unfold Obligations.PulsePeriodIsClamped
  constructor
  · rintro jitter P sp b ⟨_, _, _, _, hpos, hle, _⟩
    obtain ⟨hlo, hhi⟩ := clampPeriod_mem P hle (jitter sp b)
    exact ⟨by omega, hlo, hhi⟩
  · intro s t hP hm hd hdraw h
    obtain ⟨x, c, v, rfl, hv⟩ := exec_tick_due_cases hm hd hdraw h
    exact ⟨v, State.afterPulse_interval hP x c v, hv⟩

/-- An armed accumulator is due exactly until 2^31 microseconds after `ACC_NEXT` (R105, R145). -/
theorem State.due_iff_of_armed {s : State} (h : s.accArmed = true) :
    s.Due ↔ (s.usClk - s.accNext).toNat < 2 ^ 31 := by
  rw [← sdiff_nonneg_iff]
  exact or_iff_right (by simp [h])

/-- Settles O52: below 2^31 the signed lateness is the unsigned one, which the pulse start compares with the period;
from 2^31 on the `TICK` is an early one. -/
theorem lateTickResynchronizes : Obligations.LateTickResynchronizes := by
  unfold Obligations.LateTickResynchronizes
  constructor
  · intro s t hP hm harmed hdraw hlate h
    have hd : s.Due := (State.due_iff_of_armed harmed).mpr hlate
    obtain ⟨x, c, v, rfl, _⟩ := exec_tick_due_cases hm hd hdraw h
    have hinterval := State.afterPulse_interval hP x c v
    have hsdiff := sdiff_eq_toNat _ _ ((sdiff_nonneg_iff s.usClk s.accNext).mpr hlate)
    show s.pulseBase s.usClk (clampPeriod s.cfg v) = _
    refine if_congr ((or_iff_right (by simp [harmed])).trans ?_) rfl rfl
    rw [hsdiff, ← Int.ofNat_le, hinterval]
  · intro s hm harmed hlate
    have hd : ¬ s.Due := (State.due_iff_of_armed harmed).not.mpr (Nat.not_lt.mpr hlate)
    rw [exec_tick_of_early hm hd, State.showTick, tickResult_false]
    rfl

end Sys2Proof.Machine

/-! What a `TICK` does not look at: a frequency mode's reads neither the voice table nor, but for the jitter condition,
which of the two modes it is; no gate depends on how loud a sounding voice is. Only a `TICK` sets the gate. -/

namespace Sys2Proof.Machine

open Sys2Proof

/-! ### The voice table and the mode in a frequency-mode `TICK` -/

/-- The voice table and the mode replaced by functions of themselves, all else as it is. -/
def State.mapVoicesMode (s : State) (f : List Slot → List Slot) (g : Mode → Mode) : State :=
  { s with voices := f s.voices, mode := g s.mode }

section
variable (s : State) (f : List Slot → List Slot) (g : Mode → Mode)

theorem State.draw_mapVoicesMode :
    (s.mapVoicesMode f g).draw = s.draw.map fun bt => (bt.1, bt.2.mapVoicesMode f g) := by
  rcases s.draw_cases with ⟨hs, hd⟩ | ⟨hs, hv, hd⟩ | ⟨hs, hv, hd⟩ <;> rw [hd]
  · exact State.draw_of_unseeded hs
  · rw [State.draw_of_seeded (s := s.mapVoicesMode f g) hs,
      State.seededDraw_of_counter (s := s.mapVoicesMode f g) hv]; rfl
  · rw [State.draw_of_seeded (s := s.mapVoicesMode f g) hs,
      State.seededDraw_of_plain (s := s.mapVoicesMode f g) hv]; rfl

theorem State.complete_mapVoicesMode (w : Word) (r : Except Cause State) :
    (s.mapVoicesMode f g).complete w (r.map fun t => t.mapVoicesMode f g) =
      (s.complete w r).mapVoicesMode f g := by
  cases r with
  | ok t => rfl
  | error c =>
    rcases s.raise_cases c w with ⟨hclear, hr⟩ | ⟨hset, hr⟩ <;> rw [State.complete_error, hr]
    · exact if_pos hclear
    · exact if_neg hset

end

section
variable {s : State} {f : List Slot → List Slot} {g : Mode → Mode}
  (hj : (s.mapVoicesMode f g).jitterOn = s.jitterOn)
include hj

theorem State.effPeriod_mapVoicesMode :
    (s.mapVoicesMode f g).effPeriod = s.effPeriod.map fun pt => (pt.1, pt.2.mapVoicesMode f g) := by
  unfold State.effPeriod
  rw [hj, State.draw_mapVoicesMode]
  split
  · cases s.draw <;> rfl
  · rfl

theorem State.startPulse_mapVoicesMode (t : Word) :
    (s.mapVoicesMode f g).startPulse t = (s.startPulse t).map fun u => u.mapVoicesMode f g := by
  unfold State.startPulse
  rw [State.effPeriod_mapVoicesMode hj]
  cases s.effPeriod <;> rfl

/-- From one frequency mode to the same or the other, with the jitter condition unchanged. -/
theorem exec_tick_mapVoicesMode (hm : isFrequency s.mode = true) (hg : isFrequency (g s.mode) = true) {t : State}
    (h : exec .tick s = .next t) : exec .tick (s.mapVoicesMode f g) = .next (t.mapVoicesMode f g) := by
  have heffect : tickEffect (s.mapVoicesMode f g) = (tickEffect s).map fun u => u.mapVoicesMode f g := by
    cases hd : s.pulseDue s.usClk with
    | false => rw [tickEffect_of_early hm hd, tickEffect_of_early (s := s.mapVoicesMode f g) hg hd]; rfl
    | true =>
      have hstart := State.startPulse_mapVoicesMode hj s.usClk
      rw [tickEffect_of_due hm hd, tickEffect_of_due (s := s.mapVoicesMode f g) hg hd,
        show (s.mapVoicesMode f g).usClk = s.usClk from rfl, hstart]
      cases s.startPulse s.usClk <;> rfl
  rw [exec_eq_complete] at h ⊢
  injection h with h
  have hcomplete := s.complete_mapVoicesMode f g (encode .tick) (tickEffect s)
  rw [← h, effectOf, effectOf, heffect, hcomplete]

end

/-- Settles O60: without `PINK_FORCES_JITTER` the jitter condition of both modes is the bend flag. -/
theorem onlyBendDecidesJitterUnlessForced : Obligations.OnlyBendDecidesJitterUnlessForced := by
  unfold Obligations.OnlyBendDecidesJitterUnlessForced
  refine ⟨State.jitterOn_iff, fun s t hforce hfixed h => ?_⟩
  have hj : (s.mapVoicesMode id fun _ => .pink).jitterOn = s.jitterOn := by
    simp [State.jitterOn, State.mapVoicesMode, hforce, hfixed, isFrequency]
  exact exec_tick_mapVoicesMode hj (by rw [hfixed]; rfl) rfl h

/-! ### The velocity of a sounding voice -/

theorem Slot.fires_withVelocity {v : Slot} {vel : Byte} (hv : v.velocity ≠ 0) (hvel : vel ≠ 0) (t width : Word) :
    { v with velocity := vel }.fires t width = v.fires t width := by
  rw [Bool.eq_iff_iff, Slot.fires_iff, Slot.fires_iff]
  exact and_congr_left' (iff_of_true hvel hv)

theorem State.midiGate_withVelocity {s : State} {i : Nat} {v : Slot} {vel : Byte} (hslot : s.SlotIs i v)
    (hv : v.velocity ≠ 0) (hvel : vel ≠ 0) (t : Word) :
    (s.setSlot i { v with velocity := vel }).midiGate t = s.midiGate t := by
  obtain ⟨_, hentry⟩ := hslot
  have hlt : i < s.voices.length := (List.getElem?_eq_some_iff.mp hentry).1
  refine congrArg (List.any (List.range s.cfg.slots)) (funext fun j => ?_)
  by_cases hij : i = j
  · subst hij
    rw [State.slot_setSlot_self _ _ _ hlt, State.slot_of_getElem? hentry]
    exact Slot.fires_withVelocity hv hvel _ _
  · rw [State.slot_setSlot_other _ _ _ _ hij]
    rfl

/-- Settles O44: a MIDI mode's gate asks only whether the voice sounds, a frequency mode's does not read the table. -/
theorem velocityDoesNotScaleThePulse : Obligations.VelocityDoesNotScaleThePulse := by
  unfold Obligations.VelocityDoesNotScaleThePulse
  intro s t u i v vel hslot hv hvel ht hu
  cases hm : isFrequency s.mode with
  | false =>
    have hgate := State.midiGate_withVelocity hslot hv hvel s.usClk
    obtain rfl := exec_unique (exec_tick_of_midi hm) ht
    have htick := exec_tick_of_midi (s := s.setSlot i { v with velocity := vel }) hm
    obtain rfl := exec_unique htick hu
    exact ⟨hgate, congrArg (tickResult false) hgate⟩
  | true =>
    have htick := exec_tick_mapVoicesMode (f := fun l => l.set i { v with velocity := vel }) (g := id) rfl hm hm ht
    obtain rfl := exec_unique htick hu
    exact ⟨rfl, rfl⟩

/-! ### The writers of the gate -/

/-- Settles O57: every other effect keeps the gate or, as `SMODE` does, clears it, and a fault keeps it. -/
theorem onlyTickFiresTheGate : Obligations.OnlyTickFiresTheGate := by
  unfold Obligations.OnlyTickFiresTheGate
  intro i s t h hoff hon
  have ⟨_, _, _, _, _, _, _, _, _, hgate, _⟩ := onlyItsWritersChangeAPiece i s t h
  rcases hgate with hkept | htick | ⟨m, rfl⟩
  · simp [hkept, hoff] at hon
  · exact htick
  · have ⟨hsmode, _⟩ := smodeLatchesTheMode
    obtain rfl := exec_unique (hsmode s m) h
    cases hon

end Sys2Proof.Machine

/-! The system commands: `NOP`, and what `RDREG` answers for every select, with its two faults. -/

namespace Sys2Proof.Machine

open Sys2Proof

/-! ### `NOP` -/

/-- Settles O53: by the effect of `NOP` and its row of the opcode map. -/
theorem nopChangesNothing : Obligations.NopChangesNothing := by
  unfold Obligations.NopChangesNothing
  exact ⟨fun _ => rfl, decodesAs_opcode .nop⟩

/-! ### Register values as numbers -/

theorem zextBit_eq_ite (b : Bool) : zextBit b = if b then 1 else 0 := by cases b <;> rfl

theorem State.register_prngX_of_seeded {s : State} (h : s.seeded = true) : s.register .prngX = .ok s.prngX :=
  if_pos h

/-- A legal record without a cause is the empty one (R33). -/
theorem State.faultCmd_of_not_faulted {s : State} (hrecord : s.FaultRecordGood) (h : s.faulted = false) :
    s.faultCmd = 0 := by
  have hclear : causeField s.fault = 0 := by simpa [State.faulted] using h
  rcases s.faultRecordGood_iff.mp hrecord with ⟨_, hcmd⟩ | ⟨c, hf⟩
  · exact hcmd
  · have hcause : causeField s.fault = c.code := by
      rcases hf with hf | hf <;> simp only [hf, causeField_withMulti, causeField_zext32_code]
    exact absurd (hcause.symm.trans hclear) c.code_ne_zero

/-! ### `RDREG` -/

/-- A read writes `RESULT` and nothing else (R114). -/
theorem exec_rdreg_of_register {s : State} {rsel : BitVec 4} {r : RegName} {w : Word} (hr : registerOf rsel = .ok r)
    (hw : s.register r = .ok w) : exec (.rdreg rsel) s = .next { s with result := w } :=
  exec_of_ok (by simp only [effectOf, rdregEffect, hr, hw, State.setResult])

theorem exec_rdreg_of_illegalSelect (s : State) {rsel : BitVec 4} (h : registerOf rsel = .error .selRange) :
    exec (.rdreg rsel) s = .next (s.raise .selRange (encode (.rdreg rsel))) :=
  exec_of_error (by simp only [effectOf, rdregEffect, h])

theorem exec_rdreg_prngX (s : State) : exec (.rdreg 0x4) s =
    if s.seeded then .next { s with result := s.prngX } else .next (s.raise .unseeded 0xC0000004) := by
  split
  · next h => exact exec_rdreg_of_register rfl (State.register_prngX_of_seeded h)
  · next h => exact exec_rdreg_prngX_unseeded (Bool.eq_false_iff.mpr h)

/-- Settles O54: one read for each register that a select names, the read of `PRNG_X` by `SEEDED`, and the two
selects that name none. The invariant clears `FAULT_CMD` without a cause and `PRNG_CNT` with `PLAIN`. -/
theorem rdregReadsEveryRegister : Obligations.RdregReadsEveryRegister := by
  unfold Obligations.RdregReadsEveryRegister
  refine ⟨fun s => ?_, fun s hinv hclear => ?_, fun s hinv hplain => ?_, decodesAs_opcode .rdreg⟩
  · rw [← zext32_eq_ofNat s.prngCnt (by decide)]
    simp only [← zextBit_eq_ite s.bend, ← zextBit_eq_ite s.seeded, ← zextBit_eq_ite s.accArmed,
      ← zextBit_eq_ite s.gate]
    refine ⟨?mode, exec_rdreg_of_register (r := .bend) rfl rfl, exec_rdreg_of_register (r := .periodSp) rfl rfl,
      exec_rdreg_of_register (r := .widthSp) rfl rfl, exec_rdreg_prngX s,
      exec_rdreg_of_register (r := .prngCnt) rfl rfl, exec_rdreg_of_register (r := .seeded) rfl rfl,
      exec_rdreg_of_register (r := .accNext) rfl rfl, exec_rdreg_of_register (r := .accLast) rfl rfl,
      exec_rdreg_of_register (r := .accArmed) rfl rfl, exec_rdreg_of_register (r := .gate) rfl rfl,
      exec_rdreg_of_register (r := .fault) rfl rfl, exec_rdreg_of_register (r := .faultCmd) rfl rfl,
      exec_rdreg_config s, exec_rdreg_of_illegalSelect s rfl, exec_rdreg_of_illegalSelect s rfl⟩
    case mode =>
      refine exec_rdreg_of_register (r := .mode) rfl (congrArg Except.ok ?_)
      cases s.mode <;> rfl
  · obtain ⟨_, _, _, _, _, hrecord⟩ := hinv
    exact exec_rdreg_of_register (r := .faultCmd) rfl
      (congrArg Except.ok (State.faultCmd_of_not_faulted hrecord hclear))
  · obtain ⟨_, _, _, _, hentropy, _⟩ := hinv
    have hcnt : s.prngCnt = 0 := hentropy (.inl hplain)
    exact exec_rdreg_of_register (r := .prngCnt) rfl (congrArg (fun c => Except.ok (zext32 c)) hcnt)

end Sys2Proof.Machine

/-! The fault record: what recording a fault does to its two words, that the record decides neither whether a command
faults nor what else it does, and that nothing but a reset clears a bit of it. -/

namespace Sys2Proof.Machine

open Sys2Proof

/-! ### The `FAULT` word -/

/-- A word as the 28 bits above `CAUSE`, and `CAUSE` (R33). -/
theorem eq_append_causeField (f : Word) : f = f.extractLsb' 4 28 ++ causeField f :=
  (BitVec.extractLsb'_append_extractLsb' (w := 28) (len := 4)).symm

theorem causeField_eq_zero_iff (f : Word) : causeField f = 0 ↔ f.toNat % 16 = 0 := by
  rw [← BitVec.toNat_inj, causeField, lowField_toNat]
  rfl

/-- Taking a cause replaces `CAUSE` and keeps the other bits (R121). -/
theorem withCause_eq_or (f : Word) (c : Cause) : withCause f c = (f &&& 0xFFFFFFF0) ||| zext32 c.code := by
  have hmask : (0xFFFFFFF0 : Word) = BitVec.allOnes 28 ++ 0#4 := by decide
  have hcode : zext32 c.code = 0#28 ++ c.code := by cases c <;> decide
  calc f.extractLsb' 4 28 ++ c.code
      = ((f.extractLsb' 4 28 ++ causeField f) &&& (BitVec.allOnes 28 ++ 0#4)) ||| (0#28 ++ c.code) := by
        rw [BitVec.and_append, BitVec.or_append, BitVec.and_allOnes, BitVec.or_zero, BitVec.and_zero, BitVec.zero_or]
    _ = (f &&& 0xFFFFFFF0) ||| zext32 c.code := by rw [← eq_append_causeField, hmask, hcode]

/-- Taking the first cause clears no bit. -/
theorem and_withCause {f : Word} (h : causeField f = 0) (c : Cause) : f &&& withCause f c = f := by
  have hf : f = f.extractLsb' 4 28 ++ 0#4 := by
    conv_lhs => rw [eq_append_causeField f, h]
    rfl
  calc f &&& withCause f c
      = (f.extractLsb' 4 28 ++ 0#4) &&& (f.extractLsb' 4 28 ++ c.code) := congrArg (· &&& withCause f c) hf
    _ = f.extractLsb' 4 28 ++ 0#4 := by rw [BitVec.and_append, BitVec.and_self, BitVec.zero_and]
    _ = f := hf.symm

/-- Setting `MULTI` clears no bit. -/
theorem and_withMulti (f : Word) : f &&& withMulti f = f := by
  ext i hi
  rw [withMulti, BitVec.getElem_and, BitVec.getElem_or]
  exact inf_sup_self

theorem State.faulted_iff (s : State) : s.faulted = true ↔ causeField s.fault ≠ 0 := decide_eq_true_iff

/-! ### Recording a fault -/

/-- Recording a fault writes the record and nothing else (R121, R122). -/
theorem State.raise_eq_setFault (s : State) (c : Cause) (w : Word) :
    s.raise c w = s.setFault (s.raise c w).fault (s.raise c w).faultCmd := by
  rcases s.raise_cases c w with ⟨_, hr⟩ | ⟨_, hr⟩ <;> rw [hr] <;> rfl

theorem State.raise_of_faulted {s : State} (h : s.faulted = true) (c : Cause) (w : Word) :
    s.raise c w = s.setFault (withMulti s.fault) s.faultCmd :=
  if_neg (s.faulted_iff.mp h)

theorem State.raise_faulted (s : State) (c : Cause) (w : Word) : (s.raise c w).faulted = true := by
  rw [State.faulted_iff, State.raise_causeField]
  split
  · exact c.code_ne_zero
  · assumption

theorem State.raise_clears_no_bit (s : State) (c : Cause) (w : Word) : s.fault &&& (s.raise c w).fault = s.fault := by
  rcases s.raise_cases c w with ⟨h, hr⟩ | ⟨_, hr⟩ <;> rw [hr, State.setFault_fault]
  · exact and_withCause h c
  · exact and_withMulti s.fault

/-- Settles O16: the two branches of recording a fault, with `CAUSE` as a number and each cause's code. -/
theorem raisingRecordsTheFirstFault : Obligations.RaisingRecordsTheFirstFault := by
  unfold Obligations.RaisingRecordsTheFirstFault
  intro s c w
  simp only [State.raise, causeField_eq_zero_iff, withCause_eq_or]
  split
  · cases c <;> rfl
  · rfl

/-- Settles O18: a recorded cause leaves `MULTI` alone to be set; in the example `VREL 9` has an index beyond the
four slots. -/
theorem secondFaultSetsMulti : Obligations.SecondFaultSetsMulti := by
  unfold Obligations.SecondFaultSetsMulti
  refine ⟨fun s c w h => ?_, fun s hslots hclear => ?_⟩
  · rw [State.raise_of_faulted h]
    exact ⟨rfl, causeField_withMulti s.fault⟩
  · have hindex : (s.raise .illegalOp 0xD0000000).cfg.slots ≤ (9 : Byte).toNat := by
      rw [State.raise_cfg, hslots]; decide
    have hword : withMulti (zext32 Cause.illegalOp.code) = 0x101 := by decide
    rw [exec_vrel_of_illegalIndex hindex, State.raise_of_faulted (s.raise_faulted _ _), State.raise_of_empty hclear,
      State.setFault_fault, hword]
    rfl

/-! ### The record does not decide whether a command faults -/

/-- Whether a command faults, and with which cause, does not depend on the record; its two reads never fault. -/
theorem effectOf_setFault_error_iff {i : Instr} {s : State} {c : Cause} (f w : Word) :
    effectOf i (s.setFault f w) = .error c ↔ effectOf i s = .error c := by
  by_cases hf : i = .rdreg 0xB
  · subst hf; exact ⟨nofun, nofun⟩
  by_cases hc : i = .rdreg 0xC
  · subst hc; exact ⟨nofun, nofun⟩
  rw [effectOf_setFault i s f w hf hc]
  cases effectOf i s with
  | ok t => exact ⟨nofun, nofun⟩
  | error d => rfl

/-- Settles O17: the command has the same outcome, an effect or a cause, with a clear record and with this one. An
effect keeps the record; a cause is recorded and does nothing else. -/
theorem faultsArePrecise : Obligations.FaultsArePrecise := by
  unfold Obligations.FaultsArePrecise
  intro i s u hu
  cases he : effectOf i s with
  | error c =>
    have hclear : effectOf i s.withoutRecord = .error c := (effectOf_setFault_error_iff 0 0).mpr he
    obtain rfl := exec_unique (exec_of_error hclear) hu
    have hrecorded := s.withoutRecord.raise_faulted c (encode i)
    refine ⟨fun h0 => ?_, fun _ => ⟨c, rfl, s.raise c (encode i), exec_of_error he, rfl,
      s.raise_faulted c _, s.raise_eq_setFault c _⟩⟩
    rw [State.faulted_iff, h0] at hrecorded
    exact absurd rfl hrecorded
  | ok t =>
    rcases exec_cases hu with hclear | ⟨c, hclear, _⟩
    · obtain ⟨hfault, hcmd⟩ := effectOf_record hclear
      exact ⟨fun _ => ⟨hcmd, t, exec_of_ok he, effectOf_record he⟩, fun hne => absurd hfault hne⟩
    · exact nomatch he.symm.trans ((effectOf_setFault_error_iff 0 0).mp hclear)

/-! ### The record lasts until a reset -/

/-- `s` and `t` hold the same fault record. -/
abbrev State.SameRecord (s t : State) : Prop := t.fault = s.fault ∧ t.faultCmd = s.faultCmd

theorem State.SameRecord.trans {s t u : State} (hst : s.SameRecord t) (htu : t.SameRecord u) : s.SameRecord u :=
  ⟨htu.1.trans hst.1, htu.2.trans hst.2⟩

/-- What a recorded fault leaves in the record depends on the record only. -/
theorem State.SameRecord.raise {s t : State} (h : s.SameRecord t) (c : Cause) (w : Word) :
    (s.raise c w).SameRecord (t.raise c w) := by
  obtain ⟨hfault, hcmd⟩ := h
  unfold State.raise
  rw [hfault, hcmd]
  split <;> exact ⟨rfl, rfl⟩

theorem State.sameRecord_takeTurn (s : State) : s.SameRecord s.takeTurn := by
  obtain ⟨q, c, t, ht⟩ := s.takeTurn_eq
  rw [ht]
  exact ⟨rfl, rfl⟩

/-- A step that is no reset keeps the record, or records one more fault in it (R121, R123). -/
theorem step_record {s t : State} (h : step s = .next t) (hreset : s.portEvent ≠ .reset) :
    s.SameRecord t ∨ ∃ c w, (s.raise c w).SameRecord t := by
  have hturn := s.sameRecord_takeTurn
  have hsample (us ms : Word) : s.SameRecord (s.takeTurn.sampleClocks us ms) := hturn
  rcases step_cases h with ⟨w, us, ms, i, _, hx⟩ | ⟨w, us, ms, e, _, rfl⟩ | ⟨_, rfl⟩ | ⟨he, _⟩ | rfl | rfl
  · rcases exec_cases hx with hok | ⟨c, _, rfl⟩
    · exact .inl ((hsample us ms).trans (effectOf_record hok))
    · exact .inr ⟨c, encode i, (hsample us ms).raise c _⟩
  · exact .inr ⟨causeOf e, w, (hsample us ms).raise _ w⟩
  · exact .inl hturn
  · exact absurd he hreset
  · exact .inl hturn
  · exact .inl hturn

/-- But for the two reads of the record, a command does the same to all else whatever the record holds (R123). -/
theorem exec_setFault {i : Instr} {s t : State} (f w : Word) (hf : i ≠ .rdreg 0xB) (hc : i ≠ .rdreg 0xC)
    (h : exec i s = .next t) : ∃ g v, exec i (s.setFault f w) = .next (t.setFault g v) := by
  rcases exec_cases h with hok | ⟨c, herr, rfl⟩
  · have heffect : effectOf i (s.setFault f w) = .ok (t.setFault f w) := by
      rw [effectOf_setFault i s f w hf hc, hok]; rfl
    exact ⟨f, w, exec_of_ok heffect⟩
  · have hraise := exec_of_error ((effectOf_setFault_error_iff f w).mpr herr)
    rw [State.raise_eq_setFault] at hraise
    rw [s.raise_eq_setFault]
    exact ⟨_, _, hraise⟩

/-- Settles O19: a command completes in every state and does not look at the record; a step keeps the record or
records a fault, which clears no bit and after a first fault sets `MULTI` only; a reset clears it. -/
theorem faultRecordLastsUntilReset : Obligations.FaultRecordLastsUntilReset := by
  unfold Obligations.FaultRecordLastsUntilReset
  refine ⟨fun i s => ⟨_, exec_eq_complete i s⟩, fun i s t f w hf hc h => exec_setFault f w hf hc h,
    fun s t h => ⟨fun hreset => ?bits, fun hreset hfaulted => ?faulted, fun hreset => ?reset⟩⟩
  case bits =>
    rcases step_record h hreset with ⟨hfault, _⟩ | ⟨c, w, hfault, _⟩
    · rw [hfault, BitVec.and_self]
    · rw [hfault, State.raise_clears_no_bit]
  case faulted =>
    rcases step_record h hreset with ⟨hfault, hcmd⟩ | ⟨c, w, hfault, hcmd⟩
    · exact ⟨.inl hfault, congrArg causeField hfault, hcmd⟩
    · rw [State.raise_of_faulted hfaulted] at hfault hcmd
      have hfault : t.fault = withMulti s.fault := hfault
      exact ⟨.inr hfault, hfault ▸ causeField_withMulti s.fault, hcmd⟩
  case reset =>
    rw [step_reset hreset] at h
    cases h
    exact ⟨rfl, rfl⟩

end Sys2Proof.Machine

/-! Reset and the find-then-assign hazard: what a reset step leaves to the host, the first `TICK` on the empty table,
and an assignment to a slot that another has filled since the scan. -/

namespace Sys2Proof.Machine

open Sys2Proof

/-! ### Reset -/

/-- Settles O9: a reset step takes the turn and then sets the reset values, which write neither the parameters nor the
host's side. -/
theorem resetKeepsTheHostSide : Obligations.ResetKeepsTheHostSide := by
  unfold Obligations.ResetKeepsTheHostSide
  intro s turns hs
  refine ⟨s.takeTurn.applyReset, step_reset (State.portEvent_reset hs), ?_⟩
  rw [State.takeTurn_reset hs]
  exact ⟨rfl, rfl, rfl, rfl, rfl, rfl, rfl, rfl⟩

theorem State.slot_resetWith (P : Params) (i : Nat) : (State.resetWith P).slot i = emptySlot P := by
  rw [State.slot, State.resetWith_voices, State.resetWith_cfg, List.getD, List.getElem?_replicate]
  split <;> rfl

theorem State.resetWith_length (P : Params) : (State.resetWith P).voices.length = (State.resetWith P).cfg.slots := by
  simp

theorem emptySlot_not_fires (P : Params) (t width : Word) : (emptySlot P).fires t width = false := by
  rw [Bool.eq_false_iff, ne_eq, Slot.fires_iff]
  exact fun ⟨hsounds, _⟩ => hsounds rfl

/-- No empty slot fires, so an empty table leaves the gate off (R104). -/
theorem State.midiGate_of_empty {s : State} (h : ∀ i, i < s.cfg.slots → s.slot i = emptySlot s.cfg) (t : Word) :
    s.midiGate t = false := by
  rw [Bool.eq_false_iff, ne_eq, s.midiGate_iff]
  rintro ⟨i, hi, hfires⟩
  rw [h i hi, emptySlot_not_fires] at hfires
  cases hfires

/-- Settles O10: the reset mode is a MIDI mode, and there the gate of an empty table is off at every clock level. -/
theorem firstTickAfterResetIsSilent : Obligations.FirstTickAfterResetIsSilent := by
  unfold Obligations.FirstTickAfterResetIsSilent
  intro P us ms
  refine ⟨State.resetWith_mode P, fun i v h => ?_, ?_⟩
  · obtain ⟨_, hv⟩ := (State.slotIs_iff (State.resetWith_length P) i v).mp h
    rw [← hv, State.slot_resetWith]
    exact ⟨rfl, rfl⟩
  · show exec .tick ((State.resetWith P).sampleClocks us ms) = _
    have hsilent : ((State.resetWith P).sampleClocks us ms).midiGate us = false :=
      State.midiGate_of_empty (fun i _ => State.slot_resetWith P i) us
    rw [exec_tick_of_midi (isFrequency_of_midi (.inl rfl)), State.sampleClocks_usClk, hsilent, State.showTick,
      tickResult_false]
    rfl

/-! ### Find, then assign, twice -/

/-- A legal assignment does not look at what the slot holds, and leaves nothing of it (R89). -/
theorem exec_vasgn_setSlot {s : State} {idx pitch vel : Byte} (ch : BitVec 4) (hi : idx.toNat < s.cfg.slots)
    (hp : pitch.toNat ≤ 127) (hv : 1 ≤ vel.toNat ∧ vel.toNat ≤ 127) (u : Slot) :
    exec (.vasgn idx ch pitch vel) (s.setSlot idx.toNat u) =
      .next (s.setSlot idx.toNat (assignedSlot s ch pitch.toNat vel)) := by
  have hsame : assignedSlot (s.setSlot idx.toNat u) ch pitch.toNat vel = assignedSlot s ch pitch.toNat vel := rfl
  rw [exec_vasgn_of_legal (s := s.setSlot _ u) ch hi hp hv, hsame, State.setSlot_setSlot]

theorem State.slotIs_setSlot {s : State} (hlen : s.voices.length = s.cfg.slots) {i : Nat} (hi : i < s.cfg.slots)
    (v : Slot) : (s.setSlot i v).SlotIs i v :=
  (State.slotIs_iff (s := s.setSlot i v) (by simpa using hlen) i v).mpr
    ⟨hi, State.slot_setSlot_self _ _ _ (hlen ▸ hi)⟩

section
variable {s : State} {idx p q u v : Byte} (c d : BitVec 4)

/-- The whole state after the race: the scan's answer in `RESULT`, and in the slot what the second assignment alone
would have written (R140). -/
theorem execAll_find_assign_assign (hi : idx.toNat < s.cfg.slots) (hp : p.toNat ≤ 127) (hq : q.toNat ≤ 127)
    (hu : 1 ≤ u.toNat ∧ u.toNat ≤ 127) (hv : 1 ≤ v.toNat ∧ v.toNat ≤ 127) :
    execAll [.vfind, .vasgn idx c p u, .vasgn idx d q v] s =
      .next ((s.setResult (findResult s.firstEmpty)).setSlot idx.toNat (assignedSlot s d q.toNat v)) := by
  have hfind := exec_vfind s
  have hfirst := exec_vasgn_of_legal (s := s.setResult (findResult s.firstEmpty)) c hi hp hu
  have hsecond := exec_vasgn_setSlot (s := s.setResult (findResult s.firstEmpty)) d hi hq hv
  rw [execAll_cons hfind, execAll_cons hfirst, execAll_cons (hsecond _), execAll]
  rfl

end

/-- Settles O38: the second assignment stands in the slot, and neither it, nor the first, nor the scan faults. -/
theorem racingAssignOverwritesSilently : Obligations.RacingAssignOverwritesSilently := by
  unfold Obligations.RacingAssignOverwritesSilently
  intro s idx c d p q u v hinv hi hp hq hu hu' hv hv'
  obtain ⟨_, ⟨hlen, _⟩, _⟩ := hinv
  have hpitch : (assignedSlot s d q.toNat v).pitch = q := by simp [assignedSlot]
  exact ⟨_, execAll_find_assign_assign c d hi hp hq ⟨hu, hu'⟩ ⟨hv, hv'⟩, rfl, _,
    State.slotIs_setSlot (s := s.setResult _) hlen hi _, rfl, hpitch, rfl⟩

end Sys2Proof.Machine
